-- ==== Sys2Proof/Word.lean ====
section
/-! DEFINITION. The widths of the typed instruction's fields (00_scope.md R6, 10_state.md R23) and the eight-byte wire
record (20_memory.md R50). -/

namespace Sys2Proof

/-- `bits_8`: an opcode, or one byte of a record. -/
abbrev Byte := BitVec 8

/-- A register operand `r : bits_REG_W` (R21), with `REG_W` = 8 bits (R6; 92_eei_decisions.md D5; notes/assumptions/18): it
NAMES a machine register, and the block has no register file. -/
abbrev Reg := BitVec 8

/-- The 16-bit offset, read as `s_16` where it is rendered (R23, R84). -/
abbrev Off := BitVec 16

/-- The 32-bit immediate, read as `s_32` where it is rendered (R23, R84). -/
abbrev Imm := BitVec 32

/-- A wire record is exactly 8 bytes, `rec[0]` to `rec[7]` (R50, R130). -/
structure Record where
  b0 : Byte
  b1 : Byte
  b2 : Byte
  b3 : Byte
  b4 : Byte
  b5 : Byte
  b6 : Byte
  b7 : Byte
deriving DecidableEq, Repr

end Sys2Proof
end

