-- ==== Sys2Proof/Config.lean ====
section
/-! DEFINITION. The static inputs of the block, fixed for its whole lifetime (10_state.md R31): the byte order of the wire
record and the helper-function table. Both are OPEN parameters of the spec; every function of the model takes them as
arguments, and the machine is built with the two constants below, about which nothing is provable but what the spec fixes. -/

namespace Sys2Proof

/-- `wireOrder`, the byte order of the offset and immediate fields of a record (R52). -/
inductive WireOrder where
  | little
  | big
deriving DecidableEq, Repr, Inhabited

/-- `helperName : bits_32 -> Option String` (R12). -/
abbrev HelperTable := BitVec 32 → Option String

/-- The wire order of this block: open, one of little and big (R6, R52; notes/assumptions/5). -/
opaque Config.wireOrder : WireOrder

/-- The order the spec takes where a user of the block names none (R52). The machine does not rest on it. -/
def Config.defaultWireOrder : WireOrder := .little

/-- The helper table at every point the spec leaves open (R12; notes/assumptions/6). -/
opaque Config.openHelperName : HelperTable

/-- The helper table of this block: `helperName(1) = some "MapLookupElement"`, every other point open (R12, D15). -/
def Config.helperName : HelperTable := fun h =>
  if h = 1 then some "MapLookupElement" else Config.openHelperName h

end Sys2Proof
end

