-- ==== Sys2Proof/Syntax.lean ====
section
/-! DEFINITION. The block's data: the named values of the opcode's fields (30_encoding.md), the decoder's tagged variant
(42_decoder.md R163), the instruction descriptor with its continuation (10_state.md R23), the builder's input forms
(30_encoding.md R89), and `Instr`, whose constructors are the instructions of spec/opcode_table.json. -/

namespace Sys2Proof

/-! ## Named field values -/

/-- The five classes of the load/store group (R72, R163). -/
inductive LSClass where
  | ld | ldX | st | stX | ret
deriving DecidableEq, Repr

/-- The seven named modes, bits [7:5] of the load/store group (R74, R163). -/
inductive Mode where
  | imm | abs | ind | mem | len | msh | xAdd
deriving DecidableEq, Repr

/-- The four sizes, bits [4:3] of the load/store group (R73, R163). -/
inductive Size where
  | w | h | b | dw
deriving DecidableEq, Repr

/-- The width of an ALU-group opcode: class ALU-32 or ALU-64 (R163). -/
inductive Width where
  | w32 | w64
deriving DecidableEq, Repr

/-- The source-kind bit [3]: 0 the embedded immediate, 1 the source register (R75, R163). -/
inductive SK where
  | imm | reg
deriving DecidableEq, Repr

/-- The 13 ordinary ALU operations (R76, R163). -/
inductive AluOp where
  | add | sub | mul | div | or | and | leftShift | rightShift | negate | mod | xor | move | arithmeticRightShift
deriving DecidableEq, Repr

/-- The 8 compare and control operations of the Jump class (R77, R163). -/
inductive JmpOp where
  | always | equal | greaterThan | greaterOrEqual | bitTest | notEqual | signedGreaterThan | signedGreaterOrEqual
deriving DecidableEq, Repr

/-- What the class field bits [2:0] select: a load/store class, an ALU width or the Jump class (R72, R162). -/
inductive OpClass where
  | ls (c : LSClass)
  | alu (w : Width)
  | jmp
deriving DecidableEq, Repr

/-- An entry of the ALU operation table: an ordinary operation, or the endian swap (R76). -/
inductive AluEntry where
  | op (o : AluOp)
  | endianSwap
deriving DecidableEq, Repr

/-- An entry of the jump operation table: an ordinary operation, Call or Exit (R77). -/
inductive JmpEntry where
  | op (o : JmpOp)
  | call
  | exit
deriving DecidableEq, Repr

/-- The three groups a fallback is named after (R163). -/
inductive Group where
  | ls | alu | jmp
deriving DecidableEq, Repr

/-! ## The decoder's output -/

/-- The decoded variant (R163). -/
inductive Decoded where
  | ls (c : LSClass) (m : Mode) (z : Size) (xadd : Bool)
  | alu (w : Width) (o : AluOp) (k : SK)
  | endian (w : Width) (k : SK)
  | jmp (o : JmpOp) (k : SK)
  | call (helper : Imm)
  | exit
  | unrecognized (g : Group)
deriving DecidableEq, Repr

/-- `Ann`, a subset of {dst, src, off, imm} (R160). -/
structure Ann where
  dst : Bool
  src : Bool
  off : Bool
  imm : Bool
deriving DecidableEq, Repr

/-! ## The instruction descriptor -/

/-- The fields of one node of an instruction, less its continuation (R23). -/
structure Node where
  opcode : Byte
  dst : Reg
  src : Reg
  off : Off
  imm : Imm
deriving DecidableEq, Repr

/-- An instruction descriptor (R23). `last n` is the record whose `cont` is none and `linked n c` the one whose `cont` is
`some c`, so a chain is finite and each node owns its successor (R24; notes/assumptions/15). -/
inductive Instruction where
  | last (n : Node)
  | linked (n : Node) (c : Instruction)
deriving DecidableEq, Repr

/-- A program: a finite list of instructions in address order (R27). -/
abbrev Program := List Instruction

/-- The builder's input forms, one a shape, and the two pseudo-instructions (R89, R101). `given i` presents a descriptor
the caller already holds, with a continuation chain of any finite length (R25, R136). -/
inductive BuilderCall where
  | op (op : Byte)
  | d (op : Byte) (dst : Reg)
  | i (op : Byte) (imm : Imm)
  | di (op : Byte) (dst : Reg) (imm : Imm)
  | ds (op : Byte) (dst src : Reg)
  | doi (op : Byte) (dst : Reg) (off : Off) (imm : Imm)
  | dso (op : Byte) (dst src : Reg) (off : Off)
  | dsi (op : Byte) (dst src : Reg) (imm : Imm)
  | dsoi (op : Byte) (dst src : Reg) (off : Off) (imm : Imm)
  | loadImmediate64 (dst : Reg) (imm64 : BitVec 64)
  | loadMapFd (dst : Reg) (fd : BitVec 32)
  | given (i : Instruction)
deriving DecidableEq, Repr

/-! ## The instructions of the opcode table -/

/-- The fields an instruction of a given opcode byte still leaves free (R23): no opcode byte narrows them, the block
accepts every value (R100, R301). -/
structure Operands where
  dst : Reg
  src : Reg
  off : Off
  imm : Imm
  cont : Option Instruction
deriving DecidableEq, Repr

/-- The instructions of spec/opcode_table.json, a constructor for each mnemonic. Where several opcode bytes carry one
mnemonic, the bits that tell them apart are fields of its constructor: the width and bit [3] of the endian swap, bit [3]
of Call and Exit (don't-care bits, R82), and the field values of the fallback bytes, one constructor for each group of
R301 (`unrecognizedAlu w n k` is operation 14 + n, `unrecognizedJmp n k` operation 10 + n). See notes/assumptions/14. -/
inductive Instr where
  | ldImmW (o : Operands)
  | ldImmH (o : Operands)
  | ldImmB (o : Operands)
  | ldImmDW (o : Operands)
  | ldAbsW (o : Operands)
  | ldAbsH (o : Operands)
  | ldAbsB (o : Operands)
  | ldAbsDW (o : Operands)
  | ldIndW (o : Operands)
  | ldIndH (o : Operands)
  | ldIndB (o : Operands)
  | ldIndDW (o : Operands)
  | ldMemW (o : Operands)
  | ldMemH (o : Operands)
  | ldMemB (o : Operands)
  | ldMemDW (o : Operands)
  | ldLenW (o : Operands)
  | ldLenH (o : Operands)
  | ldLenB (o : Operands)
  | ldLenDW (o : Operands)
  | ldMshW (o : Operands)
  | ldMshH (o : Operands)
  | ldMshB (o : Operands)
  | ldMshDW (o : Operands)
  | ldXAddW (o : Operands)
  | ldXAddH (o : Operands)
  | ldXAddB (o : Operands)
  | ldXAddDW (o : Operands)
  | ldXImmW (o : Operands)
  | ldXImmH (o : Operands)
  | ldXImmB (o : Operands)
  | ldXImmDW (o : Operands)
  | ldXAbsW (o : Operands)
  | ldXAbsH (o : Operands)
  | ldXAbsB (o : Operands)
  | ldXAbsDW (o : Operands)
  | ldXIndW (o : Operands)
  | ldXIndH (o : Operands)
  | ldXIndB (o : Operands)
  | ldXIndDW (o : Operands)
  | ldXMemW (o : Operands)
  | ldXMemH (o : Operands)
  | ldXMemB (o : Operands)
  | ldXMemDW (o : Operands)
  | ldXLenW (o : Operands)
  | ldXLenH (o : Operands)
  | ldXLenB (o : Operands)
  | ldXLenDW (o : Operands)
  | ldXMshW (o : Operands)
  | ldXMshH (o : Operands)
  | ldXMshB (o : Operands)
  | ldXMshDW (o : Operands)
  | ldXXAddW (o : Operands)
  | ldXXAddH (o : Operands)
  | ldXXAddB (o : Operands)
  | ldXXAddDW (o : Operands)
  | stImmW (o : Operands)
  | stImmH (o : Operands)
  | stImmB (o : Operands)
  | stImmDW (o : Operands)
  | stAbsW (o : Operands)
  | stAbsH (o : Operands)
  | stAbsB (o : Operands)
  | stAbsDW (o : Operands)
  | stIndW (o : Operands)
  | stIndH (o : Operands)
  | stIndB (o : Operands)
  | stIndDW (o : Operands)
  | stMemW (o : Operands)
  | stMemH (o : Operands)
  | stMemB (o : Operands)
  | stMemDW (o : Operands)
  | stLenW (o : Operands)
  | stLenH (o : Operands)
  | stLenB (o : Operands)
  | stLenDW (o : Operands)
  | stMshW (o : Operands)
  | stMshH (o : Operands)
  | stMshB (o : Operands)
  | stMshDW (o : Operands)
  | stXAddW (o : Operands)
  | stXAddH (o : Operands)
  | stXAddB (o : Operands)
  | stXAddDW (o : Operands)
  | stXImmW (o : Operands)
  | stXImmH (o : Operands)
  | stXImmB (o : Operands)
  | stXImmDW (o : Operands)
  | stXAbsW (o : Operands)
  | stXAbsH (o : Operands)
  | stXAbsB (o : Operands)
  | stXAbsDW (o : Operands)
  | stXIndW (o : Operands)
  | stXIndH (o : Operands)
  | stXIndB (o : Operands)
  | stXIndDW (o : Operands)
  | stXMemW (o : Operands)
  | stXMemH (o : Operands)
  | stXMemB (o : Operands)
  | stXMemDW (o : Operands)
  | stXLenW (o : Operands)
  | stXLenH (o : Operands)
  | stXLenB (o : Operands)
  | stXLenDW (o : Operands)
  | stXMshW (o : Operands)
  | stXMshH (o : Operands)
  | stXMshB (o : Operands)
  | stXMshDW (o : Operands)
  | stXXAddW (o : Operands)
  | stXXAddH (o : Operands)
  | stXXAddB (o : Operands)
  | stXXAddDW (o : Operands)
  | retImmW (o : Operands)
  | retImmH (o : Operands)
  | retImmB (o : Operands)
  | retImmDW (o : Operands)
  | retAbsW (o : Operands)
  | retAbsH (o : Operands)
  | retAbsB (o : Operands)
  | retAbsDW (o : Operands)
  | retIndW (o : Operands)
  | retIndH (o : Operands)
  | retIndB (o : Operands)
  | retIndDW (o : Operands)
  | retMemW (o : Operands)
  | retMemH (o : Operands)
  | retMemB (o : Operands)
  | retMemDW (o : Operands)
  | retLenW (o : Operands)
  | retLenH (o : Operands)
  | retLenB (o : Operands)
  | retLenDW (o : Operands)
  | retMshW (o : Operands)
  | retMshH (o : Operands)
  | retMshB (o : Operands)
  | retMshDW (o : Operands)
  | retXAddW (o : Operands)
  | retXAddH (o : Operands)
  | retXAddB (o : Operands)
  | retXAddDW (o : Operands)
  | addImm32 (o : Operands)
  | addImm64 (o : Operands)
  | addReg32 (o : Operands)
  | addReg64 (o : Operands)
  | subImm32 (o : Operands)
  | subImm64 (o : Operands)
  | subReg32 (o : Operands)
  | subReg64 (o : Operands)
  | mulImm32 (o : Operands)
  | mulImm64 (o : Operands)
  | mulReg32 (o : Operands)
  | mulReg64 (o : Operands)
  | divImm32 (o : Operands)
  | divImm64 (o : Operands)
  | divReg32 (o : Operands)
  | divReg64 (o : Operands)
  | orImm32 (o : Operands)
  | orImm64 (o : Operands)
  | orReg32 (o : Operands)
  | orReg64 (o : Operands)
  | andImm32 (o : Operands)
  | andImm64 (o : Operands)
  | andReg32 (o : Operands)
  | andReg64 (o : Operands)
  | leftShiftImm32 (o : Operands)
  | leftShiftImm64 (o : Operands)
  | leftShiftReg32 (o : Operands)
  | leftShiftReg64 (o : Operands)
  | rightShiftImm32 (o : Operands)
  | rightShiftImm64 (o : Operands)
  | rightShiftReg32 (o : Operands)
  | rightShiftReg64 (o : Operands)
  | negateImm32 (o : Operands)
  | negateImm64 (o : Operands)
  | negateReg32 (o : Operands)
  | negateReg64 (o : Operands)
  | modImm32 (o : Operands)
  | modImm64 (o : Operands)
  | modReg32 (o : Operands)
  | modReg64 (o : Operands)
  | xorImm32 (o : Operands)
  | xorImm64 (o : Operands)
  | xorReg32 (o : Operands)
  | xorReg64 (o : Operands)
  | moveImm32 (o : Operands)
  | moveImm64 (o : Operands)
  | moveReg32 (o : Operands)
  | moveReg64 (o : Operands)
  | arithmeticRightShiftImm32 (o : Operands)
  | arithmeticRightShiftImm64 (o : Operands)
  | arithmeticRightShiftReg32 (o : Operands)
  | arithmeticRightShiftReg64 (o : Operands)
  | endian (w : Width) (k : SK) (o : Operands)
  | alwaysImm (o : Operands)
  | alwaysReg (o : Operands)
  | equalImm (o : Operands)
  | equalReg (o : Operands)
  | greaterThanImm (o : Operands)
  | greaterThanReg (o : Operands)
  | greaterOrEqualImm (o : Operands)
  | greaterOrEqualReg (o : Operands)
  | bitTestImm (o : Operands)
  | bitTestReg (o : Operands)
  | notEqualImm (o : Operands)
  | notEqualReg (o : Operands)
  | signedGreaterThanImm (o : Operands)
  | signedGreaterThanReg (o : Operands)
  | signedGreaterOrEqualImm (o : Operands)
  | signedGreaterOrEqualReg (o : Operands)
  | call (k : SK) (o : Operands)
  | exit (k : SK) (o : Operands)
  | unrecognizedJmp (n : Fin 6) (k : SK) (o : Operands)
  | unrecognizedLs (c : LSClass) (z : Size) (o : Operands)
  | unrecognizedAlu (w : Width) (n : Fin 2) (k : SK) (o : Operands)
  | loadImmediate64 (dst : Reg) (imm64 : BitVec 64)
  | loadMapFd (dst : Reg) (fd : BitVec 32)
deriving DecidableEq, Repr

end Sys2Proof
end

