-- ==== Sys2Proof/Machine/State.lean ====
section
/-! DEFINITION. The state of the machine built around the block, the reasons a step can stop, and the state after reset.
The block itself retains nothing between operations (10_state.md R20): what stands here is the data its operations take
and give, which the spec calls its state (10_state.md, opening paragraph), held between steps by the model
(notes/assumptions/1). -/

namespace Sys2Proof.Machine

/-- The record stream, the block's only byte-addressed space: offsets from the start of the stream (R56). Cells stand by
strictly rising address; an address that is not listed lies past the stream's end and holds no byte
(notes/assumptions/7). -/
abbrev Memory := List Host.Cell

/-- The spec's names for the defined fallback outcomes (R301): ordinary output values, none of which stops anything. -/
inductive FallbackCode where
  | fbLsMode
  | fbAluOp
  | fbJmpOp
  | fbHelper
deriving DecidableEq, Repr

/-- What the block gives for one descriptor at its two outputs: the encoder's records (R136), the decoder's variant and
annotation set (R160), the rendered line (R210), and the fallback outcome, if there was one (R301). -/
structure Output where
  instruction : Instruction
  records : List Record
  decoded : Decoded
  ann : Ann
  line : String
  fallback : Option FallbackCode
deriving DecidableEq, Repr

/-- The data the block operates on and gives (10_state.md). -/
structure State where
  /-- builder calls presented to the block and not taken yet, the next one first (the model's own field) -/
  input : List BuilderCall
  /-- the program built so far (R27) -/
  program : Program
  /-- the wire records of the program, as bytes at their stream offsets (R55, R56) -/
  stream : Memory
  /-- the program listing (R212) -/
  listing : String
  /-- what the block gave for the last descriptor; none before the first (the model's own field) -/
  output : Option Output
deriving DecidableEq, Repr

/-- Why the machine stops with a fault: never. Every operation of the block is total on its whole input domain and raises
nothing (R300), so no constructor stands here and no step faults. Safe (notes/assumptions/21). -/
inductive Fault where
deriving DecidableEq, Repr

/-- Why the machine refuses an instruction: never, once every instruction has its meaning. -/
inductive Refusal where
  /-- an instruction that the model gives no meaning yet, by its mnemonic, raised by an arm of `exec` alone. Safe: the
  machine stops where the block goes on. No arm raises it in this model. -/
  | notModelled (mnemonic : String)
deriving DecidableEq, Repr

/-- The answer of a step. -/
abbrev Result := Host.Outcome State Fault Refusal

/-- The machine before the first operation. The block has no reset value to give (R34, R320): nothing has been presented,
so no program, no record, no line and no output exist (notes/assumptions/4). -/
def State.reset : State :=
  { input := [], program := [], stream := [], listing := "", output := none }

end Sys2Proof.Machine
end

