-- ==== Sys2Proof/Machine/Flags.lean ====
section
/-! DEFINITION. The block has no status flags or condition codes (10_state.md R30), so no flag is computed anywhere. The
one status-like value an operation gives beside its result is its fallback outcome, under the names of
60_exceptions.md R301. -/

namespace Sys2Proof.Machine

/-- The fallback outcome of a decoded descriptor: a group's fallback from the variant, FB_HELPER where the helper table
names no function for a Call (R301). At most one applies to any descriptor (R302). -/
def fallbackOf (ht : HelperTable) : Decoded → Option FallbackCode
  | .unrecognized .ls => some .fbLsMode
  | .unrecognized .alu => some .fbAluOp
  | .unrecognized .jmp => some .fbJmpOp
  | .call h => if ht h = none then some .fbHelper else none
  | .ls .. => none
  | .alu .. => none
  | .endian .. => none
  | .jmp .. => none
  | .exit => none

end Sys2Proof.Machine
end

