-- ==== Sys2Proof/Machine/Builder.lean ====
section
/-! DEFINITION. The instruction descriptor's accessors and chain (10_state.md R23, R24), and the instruction builder
(40_builder.md): every constructor is a total function of its arguments and checks nothing (R100). -/

namespace Sys2Proof

/-! ## The descriptor -/

/-- The node an instruction starts with. -/
def Instruction.node : Instruction → Node
  | .last n => n
  | .linked n _ => n

/-- `i.cont` (R23). -/
def Instruction.cont : Instruction → Option Instruction
  | .last _ => none
  | .linked _ c => some c

def Instruction.opcode (i : Instruction) : Byte := i.node.opcode

def Instruction.dst (i : Instruction) : Reg := i.node.dst

def Instruction.src (i : Instruction) : Reg := i.node.src

def Instruction.off (i : Instruction) : Off := i.node.off

def Instruction.imm (i : Instruction) : Imm := i.node.imm

/-- The descriptor with node `n` and continuation `c` (R23). -/
def instructionOf (n : Node) (c : Option Instruction) : Instruction :=
  match c with
  | none => .last n
  | some c => .linked n c

/-- `chain(i) = [i] ++ (if i.cont = some c then chain(c) else [])` (R24). -/
def Instruction.chain : Instruction → List Instruction
  | .last n => [.last n]
  | .linked n c => .linked n c :: c.chain

/-! ## Shape constructors -/

/-- A single-record descriptor: `cont = none`; a field that a shape does not take is 0 (R100, D6;
notes/assumptions/17). -/
def single (op : Byte) (dst src : Reg) (off : Off) (imm : Imm) : Instruction :=
  .last { opcode := op, dst := dst, src := src, off := off, imm := imm }

/-- R102. -/
def buildOp (op : Byte) : Instruction := single op 0 0 0 0

/-- R103. -/
def buildD (op : Byte) (dst : Reg) : Instruction := single op dst 0 0 0

/-- R104. -/
def buildI (op : Byte) (imm : Imm) : Instruction := single op 0 0 0 imm

/-- R105. -/
def buildDi (op : Byte) (dst : Reg) (imm : Imm) : Instruction := single op dst 0 0 imm

/-- R106. -/
def buildDs (op : Byte) (dst src : Reg) : Instruction := single op dst src 0 0

/-- R107. -/
def buildDoi (op : Byte) (dst : Reg) (off : Off) (imm : Imm) : Instruction := single op dst 0 off imm

/-- R108. -/
def buildDso (op : Byte) (dst src : Reg) (off : Off) : Instruction := single op dst src off 0

/-- R109. -/
def buildDsi (op : Byte) (dst src : Reg) (imm : Imm) : Instruction := single op dst src 0 imm

/-- R110. -/
def buildDsoi (op : Byte) (dst src : Reg) (off : Off) (imm : Imm) : Instruction := single op dst src off imm

/-! ## Pseudo-instructions -/

/-- `LDDW_OPCODE`, the 64-bit load opcode (R87, D3; notes/assumptions/8). -/
def lddwOpcode : Byte := 0x18

/-- The continuation record: opcode 0, no registers, offset 0, and the high half as its immediate (R86). -/
def continuation (hi : Imm) : Instruction := single 0 0 0 0 hi

/-- `load-immediate64(dst, imm64)`: the split is on bits (R111), the first record's offset 0 (D7;
notes/assumptions/17). -/
def buildLoadImmediate64 (dst : Reg) (imm64 : BitVec 64) : Instruction :=
  .linked { opcode := lddwOpcode, dst := dst, src := 0, off := 0, imm := imm64.extractLsb' 0 32 }
    (continuation (imm64.extractLsb' 32 32))

/-- `load-map-fd(dst, fd)`: the shape of `load-immediate64` with source register 1; `fd` is read unsigned, so the high
half is 0 (R112, D8; notes/assumptions/17). -/
def buildLoadMapFd (dst : Reg) (fd : BitVec 32) : Instruction :=
  .linked { opcode := lddwOpcode, dst := dst, src := 1, off := 0, imm := fd } (continuation 0)

/-- The 64-bit immediate a consumer assembles from the two records' immediates: `rec1.imm ++ rec0.imm` (R85). -/
def assembleImm64 (rec0 rec1 : Imm) : BitVec 64 := rec1 ++ rec0

/-- What a builder call builds (R102 to R112); a given descriptor is accepted verbatim (R26, R100). -/
def BuilderCall.build : BuilderCall → Instruction
  | .op opcode => buildOp opcode
  | .d opcode dst => buildD opcode dst
  | .i opcode imm => buildI opcode imm
  | .di opcode dst imm => buildDi opcode dst imm
  | .ds opcode dst src => buildDs opcode dst src
  | .doi opcode dst off imm => buildDoi opcode dst off imm
  | .dso opcode dst src off => buildDso opcode dst src off
  | .dsi opcode dst src imm => buildDsi opcode dst src imm
  | .dsoi opcode dst src off imm => buildDsoi opcode dst src off imm
  | .loadImmediate64 dst imm64 => buildLoadImmediate64 dst imm64
  | .loadMapFd dst fd => buildLoadMapFd dst fd
  | .given x => x

/-! ## Programs -/

/-- `append(P, i) = P ++ [i]`, the only program-building operation (R27). -/
def append (P : Program) (i : Instruction) : Program := P ++ [i]

/-- `recIndex(P, p)`: the record index of the first record of the instruction at position `p` (R28). -/
def recIndex (P : Program) (p : Nat) : Nat := ((P.take p).map fun i => i.chain.length).sum

/-- The byte offset of the first record of the instruction at position `p`: `8 × recIndex(P, p)` (R28). -/
def byteOffset (P : Program) (p : Nat) : Nat := 8 * recIndex P p

end Sys2Proof
end

