-- ==== Sys2Proof/Machine/Wire.lean ====
section
/-! DEFINITION. The encoder (41_encoder.md): the register pair, one record, the continuation chain and the program byte
stream, with the layout of 20_memory.md. It copies every field and classifies nothing (R139). -/

namespace Sys2Proof

/-! ## The register pair -/

/-- `nib(r) = r[3:0]`: a register of 16 or more loses its high bits (R131). -/
def nib (r : Reg) : BitVec 4 := r.extractLsb' 0 4

/-- `pack(dst, src)`, record byte 1: `trunc_8((zext(d) & 0x0F) | (zext(s) << 4))`, the shift taken in 8 bits (R132). -/
def pack (dst src : Reg) : Byte := (dst &&& 0x0F) ||| (src <<< 4)

/-- `unpack(b) = (b[3:0], b[7:4])`, the destination first (R133). -/
def unpack (b : Byte) : BitVec 4 × BitVec 4 := (b.extractLsb' 0 4, b.extractLsb' 4 4)

/-! ## Multi-byte fields -/

/-- `ser_16`: the two bytes of a 16-bit field in stream order (R9, R53). -/
def ser16 : WireOrder → Off → Byte × Byte
  | .little, v => (v.extractLsb' 0 8, v.extractLsb' 8 8)
  | .big, v => (v.extractLsb' 8 8, v.extractLsb' 0 8)

/-- `ser_32`: the four bytes of a 32-bit field in stream order (R9, R53). -/
def ser32 : WireOrder → Imm → Byte × Byte × Byte × Byte
  | .little, v => (v.extractLsb' 0 8, v.extractLsb' 8 8, v.extractLsb' 16 8, v.extractLsb' 24 8)
  | .big, v => (v.extractLsb' 24 8, v.extractLsb' 16 8, v.extractLsb' 8 8, v.extractLsb' 0 8)

/-- The 16-bit field that `ser16` lays out as these two bytes (R140). -/
def deser16 : WireOrder → Byte → Byte → Off
  | .little, b0, b1 => b1 ++ b0
  | .big, b0, b1 => b0 ++ b1

/-- The 32-bit field that `ser32` lays out as these four bytes (R140). -/
def deser32 : WireOrder → Byte → Byte → Byte → Byte → Imm
  | .little, b0, b1, b2, b3 => b3 ++ b2 ++ b1 ++ b0
  | .big, b0, b1, b2, b3 => b0 ++ b1 ++ b2 ++ b3

/-! ## Records -/

/-- The bytes of a record, `rec[0]` first (R50). -/
def Record.bytes (r : Record) : List Byte := [r.b0, r.b1, r.b2, r.b3, r.b4, r.b5, r.b6, r.b7]

/-- `encodeRecord(i)`; `i.cont` is not read (R134). -/
def encodeRecord (wo : WireOrder) (i : Instruction) : Record :=
  { b0 := i.opcode
    b1 := pack i.dst i.src
    b2 := (ser16 wo i.off).1
    b3 := (ser16 wo i.off).2
    b4 := (ser32 wo i.imm).1
    b5 := (ser32 wo i.imm).2.1
    b6 := (ser32 wo i.imm).2.2.1
    b7 := (ser32 wo i.imm).2.2.2 }

/-- `encode(i) = map encodeRecord (chain(i))` (R136). -/
def Instruction.encode (wo : WireOrder) (i : Instruction) : List Record := i.chain.map (encodeRecord wo)

/-- The bytes of a list of records, packed back to back (R55). -/
def recordBytes (rs : List Record) : List Byte := rs.flatMap Record.bytes

/-- `encodeProgram(P) = concat(map (λ i. concat(encode(i))) P)` (R137). -/
def encodeProgram (wo : WireOrder) (P : Program) : List Byte := P.flatMap fun i => recordBytes (i.encode wo)

/-! ## The record as one word, for a consumer -/

/-- A record taken as one 64-bit little-endian word: byte k in bits [8k+7:8k] (R54). -/
def Record.word (r : Record) : BitVec 64 := r.b7 ++ r.b6 ++ r.b5 ++ r.b4 ++ r.b3 ++ r.b2 ++ r.b1 ++ r.b0

/-- The record whose `word` is `w` (R54). -/
def recordOfWord (w : BitVec 64) : Record :=
  { b0 := w.extractLsb' 0 8
    b1 := w.extractLsb' 8 8
    b2 := w.extractLsb' 16 8
    b3 := w.extractLsb' 24 8
    b4 := w.extractLsb' 32 8
    b5 := w.extractLsb' 40 8
    b6 := w.extractLsb' 48 8
    b7 := w.extractLsb' 56 8 }

/-- The node a consumer recovers from a record: everything but the register bits above bit 3 (R140;
notes/assumptions/9). -/
def nodeOfRecord (wo : WireOrder) (r : Record) : Node :=
  { opcode := r.b0
    dst := (unpack r.b1).1.setWidth 8
    src := (unpack r.b1).2.setWidth 8
    off := deser16 wo r.b2 r.b3
    imm := deser32 wo r.b4 r.b5 r.b6 r.b7 }

end Sys2Proof
end

