-- ==== Sys2Proof/Decode.lean ====
section
/-! DEFINITION. The opcode byte: the field tables with their numeric values (30_encoding.md R72 to R77), the composition
of an opcode from its fields (R78) and the opcode map (R80). Then the two directions between a descriptor and an
instruction of the table, and between an instruction and its wire bytes. The block itself never reads wire bytes (R88);
the byte-level `decode` is the consumer's reading that 41_encoder.md R140 describes (notes/assumptions/9). -/

namespace Sys2Proof

/-! ## Field values (R72 to R77; general knowledge by the spec's own mark, notes/assumptions/8) -/

/-- R72. -/
def LSClass.code : LSClass → BitVec 3
  | .ld => 0
  | .ldX => 1
  | .st => 2
  | .stX => 3
  | .ret => 6

/-- ALU-32 is class 4 and ALU-64 class 7 (R72). -/
def Width.code : Width → BitVec 3
  | .w32 => 4
  | .w64 => 7

/-- The Jump class (R72). -/
def jmpClassCode : BitVec 3 := 5

/-- R73: not the source's listing order. -/
def Size.code : Size → BitVec 2
  | .w => 0
  | .h => 1
  | .b => 2
  | .dw => 3

/-- R74. -/
def Mode.code : Mode → BitVec 3
  | .imm => 0
  | .abs => 1
  | .ind => 2
  | .mem => 3
  | .len => 4
  | .msh => 5
  | .xAdd => 6

/-- R75. -/
def SK.code : SK → BitVec 1
  | .imm => 0
  | .reg => 1

/-- R76. -/
def AluOp.code : AluOp → BitVec 4
  | .add => 0
  | .sub => 1
  | .mul => 2
  | .div => 3
  | .or => 4
  | .and => 5
  | .leftShift => 6
  | .rightShift => 7
  | .negate => 8
  | .mod => 9
  | .xor => 10
  | .move => 11
  | .arithmeticRightShift => 12

/-- The endian swap is operation 13 (R76). -/
def endianCode : BitVec 4 := 13

/-- R77. -/
def JmpOp.code : JmpOp → BitVec 4
  | .always => 0
  | .equal => 1
  | .greaterThan => 2
  | .greaterOrEqual => 3
  | .bitTest => 4
  | .notEqual => 5
  | .signedGreaterThan => 6
  | .signedGreaterOrEqual => 7

/-- Call is operation 8 (R77). -/
def callCode : BitVec 4 := 8

/-- Exit is operation 9 (R77). -/
def exitCode : BitVec 4 := 9

/-! ## Read-only tables, indexed by field value (R32): a lookup is total, `none` where no constant is named -/

/-- The class table (R72). -/
def classTable : Vector OpClass 8 :=
  #v[.ls .ld, .ls .ldX, .ls .st, .ls .stX, .alu .w32, .jmp, .ls .ret, .alu .w64]

/-- The size table (R73). -/
def sizeTable : Vector Size 4 := #v[.w, .h, .b, .dw]

/-- The mode table: value 7 has no entry (R74). -/
def modeTable : Vector (Option Mode) 8 :=
  #v[some .imm, some .abs, some .ind, some .mem, some .len, some .msh, some .xAdd, none]

/-- The ALU operation table: 14 and 15 have no entry (R76). -/
def aluTable : Vector (Option AluEntry) 16 :=
  #v[some (.op .add), some (.op .sub), some (.op .mul), some (.op .div),
     some (.op .or), some (.op .and), some (.op .leftShift), some (.op .rightShift),
     some (.op .negate), some (.op .mod), some (.op .xor), some (.op .move),
     some (.op .arithmeticRightShift), some .endianSwap, none, none]

/-- The jump operation table: 10 to 15 have no entry (R77). -/
def jmpTable : Vector (Option JmpEntry) 16 :=
  #v[some (.op .always), some (.op .equal), some (.op .greaterThan), some (.op .greaterOrEqual),
     some (.op .bitTest), some (.op .notEqual), some (.op .signedGreaterThan), some (.op .signedGreaterOrEqual),
     some .call, some .exit, none, none, none, none, none, none]

def classOf (b : BitVec 3) : OpClass := classTable[b.toFin]

def sizeOfBits (b : BitVec 2) : Size := sizeTable[b.toFin]

def modeOf (b : BitVec 3) : Option Mode := modeTable[b.toFin]

def skOf (b : BitVec 1) : SK := if b = 0 then .imm else .reg

def aluEntryOf (b : BitVec 4) : Option AluEntry := aluTable[b.toFin]

def jmpEntryOf (b : BitVec 4) : Option JmpEntry := jmpTable[b.toFin]

/-! ## Opcode composition (R78) -/

/-- `(mode << 5) | (size << 3) | class`. -/
def lsCompose (mode : BitVec 3) (size : BitVec 2) (cls : BitVec 3) : Byte :=
  (mode.setWidth 8 <<< 5) ||| (size.setWidth 8 <<< 3) ||| cls.setWidth 8

/-- `(operation << 4) | (sk << 3) | class`. -/
def opCompose (operation : BitVec 4) (sk : BitVec 1) (cls : BitVec 3) : Byte :=
  (operation.setWidth 8 <<< 4) ||| (sk.setWidth 8 <<< 3) ||| cls.setWidth 8

def lsOpcode (c : LSClass) (m : Mode) (z : Size) : Byte := lsCompose m.code z.code c.code

def aluOpcode (w : Width) (o : AluOp) (k : SK) : Byte := opCompose o.code k.code w.code

def endianOpcode (w : Width) (k : SK) : Byte := opCompose endianCode k.code w.code

def jmpOpcode (o : JmpOp) (k : SK) : Byte := opCompose o.code k.code jmpClassCode

def callOpcode (k : SK) : Byte := opCompose callCode k.code jmpClassCode

def exitOpcode (k : SK) : Byte := opCompose exitCode k.code jmpClassCode

/-- A load/store-group byte of mode 7 (R81). -/
def unnamedLsOpcode (c : LSClass) (z : Size) : Byte := lsCompose 7 z.code c.code

/-- An ALU-group byte of operation 14 + n (R81). -/
def unnamedAluOpcode (w : Width) (n : Fin 2) (k : SK) : Byte := opCompose (BitVec.ofNat 4 (14 + n.val)) k.code w.code

/-- A Jump-class byte of operation 10 + n (R81). -/
def unnamedJmpOpcode (n : Fin 6) (k : SK) : Byte := opCompose (BitVec.ofNat 4 (10 + n.val)) k.code jmpClassCode

/-! ## The descriptor of an instruction of the table -/

/-- The descriptor with opcode byte `op` and these operands (R23). -/
def Operands.withOpcode (op : Byte) (o : Operands) : Instruction :=
  instructionOf { opcode := op, dst := o.dst, src := o.src, off := o.off, imm := o.imm } o.cont

def lsRow (c : LSClass) (m : Mode) (z : Size) (o : Operands) : Instruction := o.withOpcode (lsOpcode c m z)

def aluRow (w : Width) (a : AluOp) (k : SK) (o : Operands) : Instruction := o.withOpcode (aluOpcode w a k)

def endianRow (w : Width) (k : SK) (o : Operands) : Instruction := o.withOpcode (endianOpcode w k)

def jmpRow (j : JmpOp) (k : SK) (o : Operands) : Instruction := o.withOpcode (jmpOpcode j k)

def callRow (k : SK) (o : Operands) : Instruction := o.withOpcode (callOpcode k)

def exitRow (k : SK) (o : Operands) : Instruction := o.withOpcode (exitOpcode k)

def unnamedLsRow (c : LSClass) (z : Size) (o : Operands) : Instruction := o.withOpcode (unnamedLsOpcode c z)

def unnamedAluRow (w : Width) (n : Fin 2) (k : SK) (o : Operands) : Instruction := o.withOpcode (unnamedAluOpcode w n k)

def unnamedJmpRow (n : Fin 6) (k : SK) (o : Operands) : Instruction := o.withOpcode (unnamedJmpOpcode n k)

/-- The descriptor an instruction of the table stands for: its opcode byte composed from the row's fields (R78), or the
two-record form (R111, R112). -/
def Instr.toInstruction : Instr → Instruction
  | .ldImmW o => lsRow .ld .imm .w o
  | .ldImmH o => lsRow .ld .imm .h o
  | .ldImmB o => lsRow .ld .imm .b o
  | .ldImmDW o => lsRow .ld .imm .dw o
  | .ldAbsW o => lsRow .ld .abs .w o
  | .ldAbsH o => lsRow .ld .abs .h o
  | .ldAbsB o => lsRow .ld .abs .b o
  | .ldAbsDW o => lsRow .ld .abs .dw o
  | .ldIndW o => lsRow .ld .ind .w o
  | .ldIndH o => lsRow .ld .ind .h o
  | .ldIndB o => lsRow .ld .ind .b o
  | .ldIndDW o => lsRow .ld .ind .dw o
  | .ldMemW o => lsRow .ld .mem .w o
  | .ldMemH o => lsRow .ld .mem .h o
  | .ldMemB o => lsRow .ld .mem .b o
  | .ldMemDW o => lsRow .ld .mem .dw o
  | .ldLenW o => lsRow .ld .len .w o
  | .ldLenH o => lsRow .ld .len .h o
  | .ldLenB o => lsRow .ld .len .b o
  | .ldLenDW o => lsRow .ld .len .dw o
  | .ldMshW o => lsRow .ld .msh .w o
  | .ldMshH o => lsRow .ld .msh .h o
  | .ldMshB o => lsRow .ld .msh .b o
  | .ldMshDW o => lsRow .ld .msh .dw o
  | .ldXAddW o => lsRow .ld .xAdd .w o
  | .ldXAddH o => lsRow .ld .xAdd .h o
  | .ldXAddB o => lsRow .ld .xAdd .b o
  | .ldXAddDW o => lsRow .ld .xAdd .dw o
  | .ldXImmW o => lsRow .ldX .imm .w o
  | .ldXImmH o => lsRow .ldX .imm .h o
  | .ldXImmB o => lsRow .ldX .imm .b o
  | .ldXImmDW o => lsRow .ldX .imm .dw o
  | .ldXAbsW o => lsRow .ldX .abs .w o
  | .ldXAbsH o => lsRow .ldX .abs .h o
  | .ldXAbsB o => lsRow .ldX .abs .b o
  | .ldXAbsDW o => lsRow .ldX .abs .dw o
  | .ldXIndW o => lsRow .ldX .ind .w o
  | .ldXIndH o => lsRow .ldX .ind .h o
  | .ldXIndB o => lsRow .ldX .ind .b o
  | .ldXIndDW o => lsRow .ldX .ind .dw o
  | .ldXMemW o => lsRow .ldX .mem .w o
  | .ldXMemH o => lsRow .ldX .mem .h o
  | .ldXMemB o => lsRow .ldX .mem .b o
  | .ldXMemDW o => lsRow .ldX .mem .dw o
  | .ldXLenW o => lsRow .ldX .len .w o
  | .ldXLenH o => lsRow .ldX .len .h o
  | .ldXLenB o => lsRow .ldX .len .b o
  | .ldXLenDW o => lsRow .ldX .len .dw o
  | .ldXMshW o => lsRow .ldX .msh .w o
  | .ldXMshH o => lsRow .ldX .msh .h o
  | .ldXMshB o => lsRow .ldX .msh .b o
  | .ldXMshDW o => lsRow .ldX .msh .dw o
  | .ldXXAddW o => lsRow .ldX .xAdd .w o
  | .ldXXAddH o => lsRow .ldX .xAdd .h o
  | .ldXXAddB o => lsRow .ldX .xAdd .b o
  | .ldXXAddDW o => lsRow .ldX .xAdd .dw o
  | .stImmW o => lsRow .st .imm .w o
  | .stImmH o => lsRow .st .imm .h o
  | .stImmB o => lsRow .st .imm .b o
  | .stImmDW o => lsRow .st .imm .dw o
  | .stAbsW o => lsRow .st .abs .w o
  | .stAbsH o => lsRow .st .abs .h o
  | .stAbsB o => lsRow .st .abs .b o
  | .stAbsDW o => lsRow .st .abs .dw o
  | .stIndW o => lsRow .st .ind .w o
  | .stIndH o => lsRow .st .ind .h o
  | .stIndB o => lsRow .st .ind .b o
  | .stIndDW o => lsRow .st .ind .dw o
  | .stMemW o => lsRow .st .mem .w o
  | .stMemH o => lsRow .st .mem .h o
  | .stMemB o => lsRow .st .mem .b o
  | .stMemDW o => lsRow .st .mem .dw o
  | .stLenW o => lsRow .st .len .w o
  | .stLenH o => lsRow .st .len .h o
  | .stLenB o => lsRow .st .len .b o
  | .stLenDW o => lsRow .st .len .dw o
  | .stMshW o => lsRow .st .msh .w o
  | .stMshH o => lsRow .st .msh .h o
  | .stMshB o => lsRow .st .msh .b o
  | .stMshDW o => lsRow .st .msh .dw o
  | .stXAddW o => lsRow .st .xAdd .w o
  | .stXAddH o => lsRow .st .xAdd .h o
  | .stXAddB o => lsRow .st .xAdd .b o
  | .stXAddDW o => lsRow .st .xAdd .dw o
  | .stXImmW o => lsRow .stX .imm .w o
  | .stXImmH o => lsRow .stX .imm .h o
  | .stXImmB o => lsRow .stX .imm .b o
  | .stXImmDW o => lsRow .stX .imm .dw o
  | .stXAbsW o => lsRow .stX .abs .w o
  | .stXAbsH o => lsRow .stX .abs .h o
  | .stXAbsB o => lsRow .stX .abs .b o
  | .stXAbsDW o => lsRow .stX .abs .dw o
  | .stXIndW o => lsRow .stX .ind .w o
  | .stXIndH o => lsRow .stX .ind .h o
  | .stXIndB o => lsRow .stX .ind .b o
  | .stXIndDW o => lsRow .stX .ind .dw o
  | .stXMemW o => lsRow .stX .mem .w o
  | .stXMemH o => lsRow .stX .mem .h o
  | .stXMemB o => lsRow .stX .mem .b o
  | .stXMemDW o => lsRow .stX .mem .dw o
  | .stXLenW o => lsRow .stX .len .w o
  | .stXLenH o => lsRow .stX .len .h o
  | .stXLenB o => lsRow .stX .len .b o
  | .stXLenDW o => lsRow .stX .len .dw o
  | .stXMshW o => lsRow .stX .msh .w o
  | .stXMshH o => lsRow .stX .msh .h o
  | .stXMshB o => lsRow .stX .msh .b o
  | .stXMshDW o => lsRow .stX .msh .dw o
  | .stXXAddW o => lsRow .stX .xAdd .w o
  | .stXXAddH o => lsRow .stX .xAdd .h o
  | .stXXAddB o => lsRow .stX .xAdd .b o
  | .stXXAddDW o => lsRow .stX .xAdd .dw o
  | .retImmW o => lsRow .ret .imm .w o
  | .retImmH o => lsRow .ret .imm .h o
  | .retImmB o => lsRow .ret .imm .b o
  | .retImmDW o => lsRow .ret .imm .dw o
  | .retAbsW o => lsRow .ret .abs .w o
  | .retAbsH o => lsRow .ret .abs .h o
  | .retAbsB o => lsRow .ret .abs .b o
  | .retAbsDW o => lsRow .ret .abs .dw o
  | .retIndW o => lsRow .ret .ind .w o
  | .retIndH o => lsRow .ret .ind .h o
  | .retIndB o => lsRow .ret .ind .b o
  | .retIndDW o => lsRow .ret .ind .dw o
  | .retMemW o => lsRow .ret .mem .w o
  | .retMemH o => lsRow .ret .mem .h o
  | .retMemB o => lsRow .ret .mem .b o
  | .retMemDW o => lsRow .ret .mem .dw o
  | .retLenW o => lsRow .ret .len .w o
  | .retLenH o => lsRow .ret .len .h o
  | .retLenB o => lsRow .ret .len .b o
  | .retLenDW o => lsRow .ret .len .dw o
  | .retMshW o => lsRow .ret .msh .w o
  | .retMshH o => lsRow .ret .msh .h o
  | .retMshB o => lsRow .ret .msh .b o
  | .retMshDW o => lsRow .ret .msh .dw o
  | .retXAddW o => lsRow .ret .xAdd .w o
  | .retXAddH o => lsRow .ret .xAdd .h o
  | .retXAddB o => lsRow .ret .xAdd .b o
  | .retXAddDW o => lsRow .ret .xAdd .dw o
  | .addImm32 o => aluRow .w32 .add .imm o
  | .addImm64 o => aluRow .w64 .add .imm o
  | .addReg32 o => aluRow .w32 .add .reg o
  | .addReg64 o => aluRow .w64 .add .reg o
  | .subImm32 o => aluRow .w32 .sub .imm o
  | .subImm64 o => aluRow .w64 .sub .imm o
  | .subReg32 o => aluRow .w32 .sub .reg o
  | .subReg64 o => aluRow .w64 .sub .reg o
  | .mulImm32 o => aluRow .w32 .mul .imm o
  | .mulImm64 o => aluRow .w64 .mul .imm o
  | .mulReg32 o => aluRow .w32 .mul .reg o
  | .mulReg64 o => aluRow .w64 .mul .reg o
  | .divImm32 o => aluRow .w32 .div .imm o
  | .divImm64 o => aluRow .w64 .div .imm o
  | .divReg32 o => aluRow .w32 .div .reg o
  | .divReg64 o => aluRow .w64 .div .reg o
  | .orImm32 o => aluRow .w32 .or .imm o
  | .orImm64 o => aluRow .w64 .or .imm o
  | .orReg32 o => aluRow .w32 .or .reg o
  | .orReg64 o => aluRow .w64 .or .reg o
  | .andImm32 o => aluRow .w32 .and .imm o
  | .andImm64 o => aluRow .w64 .and .imm o
  | .andReg32 o => aluRow .w32 .and .reg o
  | .andReg64 o => aluRow .w64 .and .reg o
  | .leftShiftImm32 o => aluRow .w32 .leftShift .imm o
  | .leftShiftImm64 o => aluRow .w64 .leftShift .imm o
  | .leftShiftReg32 o => aluRow .w32 .leftShift .reg o
  | .leftShiftReg64 o => aluRow .w64 .leftShift .reg o
  | .rightShiftImm32 o => aluRow .w32 .rightShift .imm o
  | .rightShiftImm64 o => aluRow .w64 .rightShift .imm o
  | .rightShiftReg32 o => aluRow .w32 .rightShift .reg o
  | .rightShiftReg64 o => aluRow .w64 .rightShift .reg o
  | .negateImm32 o => aluRow .w32 .negate .imm o
  | .negateImm64 o => aluRow .w64 .negate .imm o
  | .negateReg32 o => aluRow .w32 .negate .reg o
  | .negateReg64 o => aluRow .w64 .negate .reg o
  | .modImm32 o => aluRow .w32 .mod .imm o
  | .modImm64 o => aluRow .w64 .mod .imm o
  | .modReg32 o => aluRow .w32 .mod .reg o
  | .modReg64 o => aluRow .w64 .mod .reg o
  | .xorImm32 o => aluRow .w32 .xor .imm o
  | .xorImm64 o => aluRow .w64 .xor .imm o
  | .xorReg32 o => aluRow .w32 .xor .reg o
  | .xorReg64 o => aluRow .w64 .xor .reg o
  | .moveImm32 o => aluRow .w32 .move .imm o
  | .moveImm64 o => aluRow .w64 .move .imm o
  | .moveReg32 o => aluRow .w32 .move .reg o
  | .moveReg64 o => aluRow .w64 .move .reg o
  | .arithmeticRightShiftImm32 o => aluRow .w32 .arithmeticRightShift .imm o
  | .arithmeticRightShiftImm64 o => aluRow .w64 .arithmeticRightShift .imm o
  | .arithmeticRightShiftReg32 o => aluRow .w32 .arithmeticRightShift .reg o
  | .arithmeticRightShiftReg64 o => aluRow .w64 .arithmeticRightShift .reg o
  | .endian w k o => endianRow w k o
  | .alwaysImm o => jmpRow .always .imm o
  | .alwaysReg o => jmpRow .always .reg o
  | .equalImm o => jmpRow .equal .imm o
  | .equalReg o => jmpRow .equal .reg o
  | .greaterThanImm o => jmpRow .greaterThan .imm o
  | .greaterThanReg o => jmpRow .greaterThan .reg o
  | .greaterOrEqualImm o => jmpRow .greaterOrEqual .imm o
  | .greaterOrEqualReg o => jmpRow .greaterOrEqual .reg o
  | .bitTestImm o => jmpRow .bitTest .imm o
  | .bitTestReg o => jmpRow .bitTest .reg o
  | .notEqualImm o => jmpRow .notEqual .imm o
  | .notEqualReg o => jmpRow .notEqual .reg o
  | .signedGreaterThanImm o => jmpRow .signedGreaterThan .imm o
  | .signedGreaterThanReg o => jmpRow .signedGreaterThan .reg o
  | .signedGreaterOrEqualImm o => jmpRow .signedGreaterOrEqual .imm o
  | .signedGreaterOrEqualReg o => jmpRow .signedGreaterOrEqual .reg o
  | .call k o => callRow k o
  | .exit k o => exitRow k o
  | .unrecognizedJmp n k o => unnamedJmpRow n k o
  | .unrecognizedLs c z o => unnamedLsRow c z o
  | .unrecognizedAlu w n k o => unnamedAluRow w n k o
  | .loadImmediate64 dst imm64 => buildLoadImmediate64 dst imm64
  | .loadMapFd dst fd => buildLoadMapFd dst fd

/-! ## The instruction of the table that a descriptor is -/

/-- The opcode map: row the high hex digit of the opcode byte, column the low one (R80). -/
def opcodeMap : Vector (Vector (Operands → Instr) 16) 16 :=
  #v[
    #v[.ldImmW, .ldXImmW, .stImmW, .stXImmW, .addImm32, .alwaysImm, .retImmW, .addImm64, .ldImmH, .ldXImmH, .stImmH, .stXImmH, .addReg32, .alwaysReg, .retImmH, .addReg64],
    #v[.ldImmB, .ldXImmB, .stImmB, .stXImmB, .subImm32, .equalImm, .retImmB, .subImm64, .ldImmDW, .ldXImmDW, .stImmDW, .stXImmDW, .subReg32, .equalReg, .retImmDW, .subReg64],
    #v[.ldAbsW, .ldXAbsW, .stAbsW, .stXAbsW, .mulImm32, .greaterThanImm, .retAbsW, .mulImm64, .ldAbsH, .ldXAbsH, .stAbsH, .stXAbsH, .mulReg32, .greaterThanReg, .retAbsH, .mulReg64],
    #v[.ldAbsB, .ldXAbsB, .stAbsB, .stXAbsB, .divImm32, .greaterOrEqualImm, .retAbsB, .divImm64, .ldAbsDW, .ldXAbsDW, .stAbsDW, .stXAbsDW, .divReg32, .greaterOrEqualReg, .retAbsDW, .divReg64],
    #v[.ldIndW, .ldXIndW, .stIndW, .stXIndW, .orImm32, .bitTestImm, .retIndW, .orImm64, .ldIndH, .ldXIndH, .stIndH, .stXIndH, .orReg32, .bitTestReg, .retIndH, .orReg64],
    #v[.ldIndB, .ldXIndB, .stIndB, .stXIndB, .andImm32, .notEqualImm, .retIndB, .andImm64, .ldIndDW, .ldXIndDW, .stIndDW, .stXIndDW, .andReg32, .notEqualReg, .retIndDW, .andReg64],
    #v[.ldMemW, .ldXMemW, .stMemW, .stXMemW, .leftShiftImm32, .signedGreaterThanImm, .retMemW, .leftShiftImm64, .ldMemH, .ldXMemH, .stMemH, .stXMemH, .leftShiftReg32, .signedGreaterThanReg, .retMemH, .leftShiftReg64],
    #v[.ldMemB, .ldXMemB, .stMemB, .stXMemB, .rightShiftImm32, .signedGreaterOrEqualImm, .retMemB, .rightShiftImm64, .ldMemDW, .ldXMemDW, .stMemDW, .stXMemDW, .rightShiftReg32, .signedGreaterOrEqualReg, .retMemDW, .rightShiftReg64],
    #v[.ldLenW, .ldXLenW, .stLenW, .stXLenW, .negateImm32, .call .imm, .retLenW, .negateImm64, .ldLenH, .ldXLenH, .stLenH, .stXLenH, .negateReg32, .call .reg, .retLenH, .negateReg64],
    #v[.ldLenB, .ldXLenB, .stLenB, .stXLenB, .modImm32, .exit .imm, .retLenB, .modImm64, .ldLenDW, .ldXLenDW, .stLenDW, .stXLenDW, .modReg32, .exit .reg, .retLenDW, .modReg64],
    #v[.ldMshW, .ldXMshW, .stMshW, .stXMshW, .xorImm32, .unrecognizedJmp 0 .imm, .retMshW, .xorImm64, .ldMshH, .ldXMshH, .stMshH, .stXMshH, .xorReg32, .unrecognizedJmp 0 .reg, .retMshH, .xorReg64],
    #v[.ldMshB, .ldXMshB, .stMshB, .stXMshB, .moveImm32, .unrecognizedJmp 1 .imm, .retMshB, .moveImm64, .ldMshDW, .ldXMshDW, .stMshDW, .stXMshDW, .moveReg32, .unrecognizedJmp 1 .reg, .retMshDW, .moveReg64],
    #v[.ldXAddW, .ldXXAddW, .stXAddW, .stXXAddW, .arithmeticRightShiftImm32, .unrecognizedJmp 2 .imm, .retXAddW, .arithmeticRightShiftImm64, .ldXAddH, .ldXXAddH, .stXAddH, .stXXAddH, .arithmeticRightShiftReg32, .unrecognizedJmp 2 .reg, .retXAddH, .arithmeticRightShiftReg64],
    #v[.ldXAddB, .ldXXAddB, .stXAddB, .stXXAddB, .endian .w32 .imm, .unrecognizedJmp 3 .imm, .retXAddB, .endian .w64 .imm, .ldXAddDW, .ldXXAddDW, .stXAddDW, .stXXAddDW, .endian .w32 .reg, .unrecognizedJmp 3 .reg, .retXAddDW, .endian .w64 .reg],
    #v[.unrecognizedLs .ld .w, .unrecognizedLs .ldX .w, .unrecognizedLs .st .w, .unrecognizedLs .stX .w, .unrecognizedAlu .w32 0 .imm, .unrecognizedJmp 4 .imm, .unrecognizedLs .ret .w, .unrecognizedAlu .w64 0 .imm, .unrecognizedLs .ld .h, .unrecognizedLs .ldX .h, .unrecognizedLs .st .h, .unrecognizedLs .stX .h, .unrecognizedAlu .w32 0 .reg, .unrecognizedJmp 4 .reg, .unrecognizedLs .ret .h, .unrecognizedAlu .w64 0 .reg],
    #v[.unrecognizedLs .ld .b, .unrecognizedLs .ldX .b, .unrecognizedLs .st .b, .unrecognizedLs .stX .b, .unrecognizedAlu .w32 1 .imm, .unrecognizedJmp 5 .imm, .unrecognizedLs .ret .b, .unrecognizedAlu .w64 1 .imm, .unrecognizedLs .ld .dw, .unrecognizedLs .ldX .dw, .unrecognizedLs .st .dw, .unrecognizedLs .stX .dw, .unrecognizedAlu .w32 1 .reg, .unrecognizedJmp 5 .reg, .unrecognizedLs .ret .dw, .unrecognizedAlu .w64 1 .reg]]

/-- The instruction of opcode byte `op`: every byte has one (R79). -/
def ofOpcode (op : Byte) (o : Operands) : Instr :=
  (opcodeMap[(op.extractLsb' 4 4).toFin][(op.extractLsb' 0 4).toFin]) o

def Instruction.operands (x : Instruction) : Operands :=
  { dst := x.dst, src := x.src, off := x.off, imm := x.imm, cont := x.cont }

/-- The two-record rows of the table: opcode 0x18 and source 0 or 1 in the first record, and a continuation of opcode 0
with no registers and offset 0; for source 1 its immediate is 0 too (R111, R112, R86; notes/assumptions/10). -/
def twoRecordRow (x : Instruction) : Option Instr :=
  match x with
  | .last _ => none
  | .linked _ (.linked _ _) => none
  | .linked n (.last m) =>
    if n.opcode = lddwOpcode ∧ n.off = 0 ∧ m.opcode = 0 ∧ m.dst = 0 ∧ m.src = 0 ∧ m.off = 0 then
      if n.src = 0 then some (.loadImmediate64 n.dst (assembleImm64 n.imm m.imm))
      else if n.src = 1 ∧ m.imm = 0 then some (.loadMapFd n.dst n.imm)
      else none
    else none

/-- The instruction of the table a descriptor is: a two-record row where it has that shape, else its opcode byte's. -/
def ofInstruction (x : Instruction) : Instr :=
  match twoRecordRow x with
  | some i => i
  | none => ofOpcode x.opcode x.operands

/-! ## Wire bytes of one instruction -/

/-- Why bytes are not the records of an instruction. -/
inductive DecodeError where
  /-- no record at all: a chain has at least one node (R24) -/
  | noRecord
  /-- the bytes are no whole number of 8-byte records (R50) -/
  | partialRecord
deriving DecidableEq, Repr

/-- Bytes cut into records of 8 (R55). -/
def recordsOfBytes : List Byte → Except DecodeError (List Record)
  | [] => .ok []
  | b0 :: b1 :: b2 :: b3 :: b4 :: b5 :: b6 :: b7 :: rest =>
    match recordsOfBytes rest with
    | .ok rs => .ok (⟨b0, b1, b2, b3, b4, b5, b6, b7⟩ :: rs)
    | .error e => .error e
  | _ => .error .partialRecord

/-- A chain from its nodes, each the continuation of the one before (R24). -/
def chainOfNodes (n : Node) : List Node → Instruction
  | [] => .last n
  | m :: ms => .linked n (chainOfNodes m ms)

/-- The descriptor whose records these bytes are, all of them (R136, R140). -/
def instructionOfBytes (wo : WireOrder) (bs : List Byte) : Except DecodeError Instruction :=
  match recordsOfBytes bs with
  | .error e => .error e
  | .ok [] => .error .noRecord
  | .ok (r :: rs) => .ok (chainOfNodes (nodeOfRecord wo r) (rs.map (nodeOfRecord wo)))

/-- The instruction whose records these bytes are, all of them: total, and it refuses by name. -/
def decode (wo : WireOrder) (bs : List Byte) : Except DecodeError Instr :=
  match instructionOfBytes wo bs with
  | .error e => .error e
  | .ok x => .ok (ofInstruction x)

/-- The wire bytes of an instruction (R136). -/
def encode (wo : WireOrder) (i : Instr) : List Byte := recordBytes (i.toInstruction.encode wo)

/-! ## Words of the opcode table -/

/-- How many records a row of the table has whose bits are numbered up to `nbits`: a row of 8 bits gives the opcode byte
of a single record, and the rows of 16 bits are the two two-record forms (R80; notes/assumptions/11). -/
def tableRecords (nbits : Nat) : Nat := if nbits ≤ 8 then 1 else if nbits ≤ 16 then 2 else (nbits + 63) / 64

/-- The records that `w` numbers: each 64 bits are one record seen as a little-endian word (R54), zero above `nbits`. -/
def recordsOfTableWord (nbits w : Nat) : List Record :=
  (List.range (tableRecords nbits)).map fun k => recordOfWord (BitVec.ofNat 64 ((w % 2 ^ nbits) >>> (64 * k)))

/-- The wire bytes that a table word numbers. -/
def bytesOfTableWord (nbits w : Nat) : List Byte := recordBytes (recordsOfTableWord nbits w)

/-- The instruction the decoder reads from a table word. The word's bits are numbered as `Record.word` numbers a record's,
whose fields stand there in the little order (R54), so that order reads them; see notes/assumptions/11. -/
def decodeTableWord (nbits w : Nat) : Option Instr :=
  match decode .little (bytesOfTableWord nbits w) with
  | .ok i => some i
  | .error _ => none

end Sys2Proof
end

