-- ==== Sys2Proof/Machine/Operands.lean ====
section
/-! DEFINITION. What the decoder reads of an instruction's operands: the fields of the opcode byte (42_decoder.md R161),
the annotation set of each form (R165, R167, R168, R170), and the register model's roles (10_state.md R21). -/

namespace Sys2Proof.Machine

/-! ## Fields of the opcode byte (R161) -/

def clsField (op : Byte) : BitVec 3 := op.extractLsb' 0 3

def sizeField (op : Byte) : BitVec 2 := op.extractLsb' 3 2

def modeField (op : Byte) : BitVec 3 := op.extractLsb' 5 3

def aopField (op : Byte) : BitVec 4 := op.extractLsb' 4 4

def skField (op : Byte) : BitVec 1 := op.extractLsb' 3 1

/-! ## Annotation sets -/

/-- The empty set: Call, Exit and the fallbacks (R172, R173, R175). -/
def annNone : Ann := { dst := false, src := false, off := false, imm := false }

/-- `annLS`: Absolute and Indirect show {src, imm}, every other mode all four (R165, D12;
notes/assumptions/19). -/
def annLS : Mode → Ann
  | .abs | .ind => { dst := false, src := true, off := false, imm := true }
  | .imm | .mem | .len | .msh | .xAdd => { dst := true, src := true, off := true, imm := true }

/-- {dst} and, by the source kind, imm or src (R167). -/
def annAlu : SK → Ann
  | .imm => { dst := true, src := false, off := false, imm := true }
  | .reg => { dst := true, src := true, off := false, imm := false }

/-- {dst, imm}, whatever bit [3] (R168, D12, D23; notes/assumptions/19). -/
def annEndian : Ann := { dst := true, src := false, off := false, imm := true }

/-- {dst, off} and, by the source kind, imm or src (R170). -/
def annJmp : SK → Ann
  | .imm => { dst := true, src := false, off := true, imm := true }
  | .reg => { dst := true, src := true, off := true, imm := false }

/-! ## Register roles -/

/-- The roles "layered on a flat integer range" (R21). No operation of the block reads a role (R22). -/
inductive RegRole where
  | returnValue
  | callArgument
  | calleeSaved
  | framePointer
deriving DecidableEq, Repr

/-- The role of an architectural register; the values 11 to 255 have none (R21, R22). -/
def regRole (r : Reg) : Option RegRole :=
  let n := r.toNat
  if n = 0 then some .returnValue
  else if n ≤ 5 then some .callArgument
  else if n ≤ 9 then some .calleeSaved
  else if n = 10 then some .framePointer
  else none

end Sys2Proof.Machine
end

