-- ==== Sys2Proof/Machine/Classify.lean ====
section
/-! DEFINITION. The decoder's classification (42_decoder.md): the opcode byte parsed into its fields, the class selecting
the group, and a defined fallback where no constant is named. Total on every descriptor (R176). -/

namespace Sys2Proof.Machine

/-- The load/store group (R164, R166). -/
def classifyLS (c : LSClass) (op : Byte) : Decoded × Ann :=
  match modeOf (modeField op) with
  | none => (.unrecognized .ls, annNone)
  | some m => (.ls c m (sizeOfBits (sizeField op)) (decide (m = .xAdd)), annLS m)

/-- The ALU group (R167, R168, R169). -/
def classifyAlu (w : Width) (op : Byte) : Decoded × Ann :=
  let k := skOf (skField op)
  match aluEntryOf (aopField op) with
  | none => (.unrecognized .alu, annNone)
  | some .endianSwap => (.endian w k, annEndian)
  | some (.op o) => (.alu w o k, annAlu k)

/-- The Jump class (R170 to R174). -/
def classifyJmp (op : Byte) (imm : Imm) : Decoded × Ann :=
  let k := skOf (skField op)
  match jmpEntryOf (aopField op) with
  | none => (.unrecognized .jmp, annNone)
  | some .call => (.call imm, annNone)
  | some .exit => (.exit, annNone)
  | some (.op o) => (.jmp o k, annJmp k)

/-- `decode : Instruction -> Decoded × Ann` (R160). Return is of the load/store group and class 7 always ALU-64 (R162,
D24, D30; notes/assumptions/19). -/
def classify (i : Instruction) : Decoded × Ann :=
  match classOf (clsField i.opcode) with
  | .ls c => classifyLS c i.opcode
  | .alu w => classifyAlu w i.opcode
  | .jmp => classifyJmp i.opcode i.imm

end Sys2Proof.Machine
end

