-- ==== Sys2Proof/Machine/Render.lean ====
section
/-! DEFINITION. The decoder's rendering (43_render.md): the token table, mnemonics, annotations, the debug line of one
descriptor and the program listing. The exact text rests on the spec's own decisions D10 to D16 (notes/assumptions/13). -/

namespace Sys2Proof.Machine

/-- `dec(n)`: decimal, a leading `-` when n < 0, no leading zeros and no `+` (R9). -/
def dec (n : Int) : String := toString n

/-- `display(r)`: the full value, never the 4-bit field of the record (R200). -/
def display (r : Reg) : String := if r.toNat = 10 then "rfp" else "r" ++ dec r.toNat

/-! ## Tokens (R201) -/

def tokClass : LSClass → String
  | .ld => "Ld"
  | .ldX => "LdX"
  | .st => "St"
  | .stX => "StX"
  | .ret => "Ret"

def tokMode : Mode → String
  | .imm => "Imm"
  | .abs => "Abs"
  | .ind => "Ind"
  | .mem => "Mem"
  | .len => "Len"
  | .msh => "Msh"
  | .xAdd => "XAdd"

def tokSize : Size → String
  | .w => "W"
  | .h => "H"
  | .b => "B"
  | .dw => "DW"

def tokAlu : AluOp → String
  | .add => "Add"
  | .sub => "Sub"
  | .mul => "Mul"
  | .div => "Div"
  | .or => "Or"
  | .and => "And"
  | .leftShift => "LeftShift"
  | .rightShift => "RightShift"
  | .negate => "Negate"
  | .mod => "Mod"
  | .xor => "Xor"
  | .move => "Move"
  | .arithmeticRightShift => "ArithmeticRightShift"

def tokJmp : JmpOp → String
  | .always => "Always"
  | .equal => "Equal"
  | .greaterThan => "GreaterThan"
  | .greaterOrEqual => "GreaterOrEqual"
  | .bitTest => "BitTest"
  | .notEqual => "NotEqual"
  | .signedGreaterThan => "SignedGreaterThan"
  | .signedGreaterOrEqual => "SignedGreaterOrEqual"

def tokSK : SK → String
  | .imm => "Imm"
  | .reg => "Reg"

def tokWidth : Width → String
  | .w32 => "32"
  | .w64 => "64"

/-! ## Mnemonics -/

/-- The mnemonic as the opcode map has it (R80, R202 to R205, R207, R208): tokens with no separator. -/
def opcodeMnemonic : Decoded → String
  | .ls c m z _ => tokClass c ++ tokMode m ++ tokSize z
  | .alu w o k => tokAlu o ++ tokSK k ++ tokWidth w
  | .endian _ _ => "Endian"
  | .jmp o k => tokJmp o ++ tokSK k
  | .call _ => "Call"
  | .exit => "Exit"
  | .unrecognized _ => "unrecognized opcode"

/-- `helperText(h)` (R206). -/
def helperText (ht : HelperTable) (h : Imm) : String :=
  match ht h with
  | some n => n
  | none => "unknown function call: " ++ dec h.toInt

/-- `mnem`: at render time a Call is followed by its helper's name (R206); every other mnemonic is the map's. -/
def mnem (ht : HelperTable) (d : Decoded) : String :=
  match d with
  | .call h => opcodeMnemonic d ++ " " ++ helperText ht h
  | .ls .. | .alu .. | .endian .. | .jmp .. | .exit | .unrecognized _ => opcodeMnemonic d

/-! ## Annotations and the line -/

/-- `annText(i, A)`, in the order dst, src, off, imm (R209). -/
def annText (i : Instruction) (a : Ann) : String :=
  (if a.dst then " dst: " ++ display i.dst else "")
  ++ (if a.src then " src: " ++ display i.src else "")
  ++ (if a.off then " off: " ++ dec i.off.toInt else "")
  ++ (if a.imm then " imm: " ++ dec i.imm.toInt else "")

/-- The line of a descriptor that decodes to `d` with annotations `a` (R210). -/
def renderLine (ht : HelperTable) (i : Instruction) (d : Decoded) (a : Ann) : String :=
  "op: " ++ mnem ht d ++ annText i a

/-- `describe(i)`: one node, its continuation is not rendered (R210). -/
def describe (ht : HelperTable) (i : Instruction) : String := renderLine ht i (classify i).1 (classify i).2

/-! ## Program listing (R212) -/

/-- k tabs. -/
def tabs (k : Nat) : String := String.ofList (List.replicate k '\t')

/-- The lines of the continuations of the instruction at position `p`, the first of them at depth `k`. -/
def continuationLines (ht : HelperTable) (p k : Nat) : List Instruction → String
  | [] => ""
  | c :: cs => tabs k ++ dec p ++ "." ++ dec k ++ ": " ++ describe ht c ++ "\n" ++ continuationLines ht p (k + 1) cs

/-- The lines of the instruction at position `p`, its own line given, then its continuations. -/
def entryLines (ht : HelperTable) (p : Nat) (line : String) (conts : List Instruction) : String :=
  dec p ++ ": " ++ line ++ "\n" ++ continuationLines ht p 1 conts

/-- `lines(p, chain(i))`. -/
def instructionLines (ht : HelperTable) (p : Nat) (i : Instruction) : String :=
  entryLines ht p (describe ht i) i.chain.tail

/-- The listing of instructions that stand from position `p` on. -/
def listingFrom (ht : HelperTable) (p : Nat) : Program → String
  | [] => ""
  | i :: P => instructionLines ht p i ++ listingFrom ht (p + 1) P

/-- `listing(P)`. -/
def programListing (ht : HelperTable) (P : Program) : String := listingFrom ht 0 P

end Sys2Proof.Machine
end

