-- ==== Sys2Proof/Machine/Ops.lean ====
section
/-! DEFINITION. The named operations over the record stream, and the one shared operation every instruction's meaning is
written over: a descriptor is presented to the block, both units give their outputs for it, and it is appended to the
program. Nothing here can fail (60_exceptions.md R300): there is no exception to take and none to return from (R304). -/

namespace Sys2Proof.Machine

/-! ## The record stream -/

/-- The canonical form: addresses strictly rising. No entry can equal what an unlisted address reads as, since that is no
byte at all (notes/assumptions/7). -/
abbrev Memory.wf (m : Memory) : Prop := m.Pairwise fun c d => c.1 < d.1

/-- The byte at a stream offset; none past the stream's end (R56). -/
def Memory.read : Memory → Nat → Option Byte
  | [], _ => none
  | (k, v) :: m, a => if k = a then some v else Memory.read m a

/-- One byte stored, the canonical form kept. -/
def Memory.write : Memory → Nat → Byte → Memory
  | [], a, b => [(a, b)]
  | (k, v) :: m, a, b =>
    if a < k then (a, b) :: (k, v) :: m
    else if a = k then (a, b) :: m
    else (k, v) :: Memory.write m a b

/-- Bytes stored back to back from `a` on (R55). -/
def Memory.writeBytes (m : Memory) (a : Nat) : List Byte → Memory
  | [] => m
  | b :: bs => Memory.writeBytes (m.write a b) (a + 1) bs

/-! ## Presenting a descriptor -/

/-- The stream offset of the next instruction's first record: the byte offset of the position it will stand at (R28, R55;
notes/assumptions/16). -/
def State.nextOffset (s : State) : Nat := byteOffset s.program s.program.length

/-- The bytes a descriptor's records add to the stream (R136). -/
def recordedBytes (i : Instruction) : List Byte := recordBytes (i.encode Config.wireOrder)

/-- The block's outputs for a descriptor that decodes to `d` with annotations `a`. -/
def outputFor (i : Instruction) (d : Decoded) (a : Ann) : Output :=
  { instruction := i
    records := i.encode Config.wireOrder
    decoded := d
    ann := a
    line := renderLine Config.helperName i d a
    fallback := fallbackOf Config.helperName d }

/-- The state after a descriptor that decodes to `d` with annotations `a` was presented. It stands at the program's next
position, its records at that position's byte offset, its lines at the listing's end (R27, R55, R212;
notes/assumptions/1). -/
def State.presented (s : State) (i : Instruction) (d : Decoded) (a : Ann) : State :=
  { s with
    program := append s.program i
    stream := s.stream.writeBytes s.nextOffset (recordedBytes i)
    listing := s.listing
      ++ entryLines Config.helperName s.program.length (renderLine Config.helperName i d a) i.chain.tail
    output := some (outputFor i d a) }

/-- Presenting a descriptor always completes (R300). -/
def present (i : Instruction) (d : Decoded) (a : Ann) (s : State) : Result := .next (s.presented i d a)

end Sys2Proof.Machine
end

