-- ==== Sys2Proof/Machine/Alu.lean ====
section
/-! DEFINITION. The ALU group: classes ALU-32 and ALU-64, the 13 ordinary operations (42_decoder.md R167; 43_render.md
R203) and the endian swap (R168, R204). -/

namespace Sys2Proof.Machine

/-- An ordinary ALU row: the destination is annotated, and by bit [3] the immediate or the source. -/
def runAlu (w : Width) (a : AluOp) (k : SK) (o : Operands) (s : State) : Result :=
  present (aluRow w a k o) (.alu w a k) (annAlu k) s

/-- The endian swap: width and source kind are recorded in the variant and change nothing else (R168). -/
def execEndian (w : Width) (k : SK) (o : Operands) (s : State) : Result :=
  present (endianRow w k o) (.endian w k) annEndian s

/-! ## ALU-32 -/

def execAddImm32 (o : Operands) (s : State) : Result := runAlu .w32 .add .imm o s

def execAddReg32 (o : Operands) (s : State) : Result := runAlu .w32 .add .reg o s

def execSubImm32 (o : Operands) (s : State) : Result := runAlu .w32 .sub .imm o s

def execSubReg32 (o : Operands) (s : State) : Result := runAlu .w32 .sub .reg o s

def execMulImm32 (o : Operands) (s : State) : Result := runAlu .w32 .mul .imm o s

def execMulReg32 (o : Operands) (s : State) : Result := runAlu .w32 .mul .reg o s

def execDivImm32 (o : Operands) (s : State) : Result := runAlu .w32 .div .imm o s

def execDivReg32 (o : Operands) (s : State) : Result := runAlu .w32 .div .reg o s

def execOrImm32 (o : Operands) (s : State) : Result := runAlu .w32 .or .imm o s

def execOrReg32 (o : Operands) (s : State) : Result := runAlu .w32 .or .reg o s

def execAndImm32 (o : Operands) (s : State) : Result := runAlu .w32 .and .imm o s

def execAndReg32 (o : Operands) (s : State) : Result := runAlu .w32 .and .reg o s

def execLeftShiftImm32 (o : Operands) (s : State) : Result := runAlu .w32 .leftShift .imm o s

def execLeftShiftReg32 (o : Operands) (s : State) : Result := runAlu .w32 .leftShift .reg o s

def execRightShiftImm32 (o : Operands) (s : State) : Result := runAlu .w32 .rightShift .imm o s

def execRightShiftReg32 (o : Operands) (s : State) : Result := runAlu .w32 .rightShift .reg o s

def execNegateImm32 (o : Operands) (s : State) : Result := runAlu .w32 .negate .imm o s

def execNegateReg32 (o : Operands) (s : State) : Result := runAlu .w32 .negate .reg o s

def execModImm32 (o : Operands) (s : State) : Result := runAlu .w32 .mod .imm o s

def execModReg32 (o : Operands) (s : State) : Result := runAlu .w32 .mod .reg o s

def execXorImm32 (o : Operands) (s : State) : Result := runAlu .w32 .xor .imm o s

def execXorReg32 (o : Operands) (s : State) : Result := runAlu .w32 .xor .reg o s

def execMoveImm32 (o : Operands) (s : State) : Result := runAlu .w32 .move .imm o s

def execMoveReg32 (o : Operands) (s : State) : Result := runAlu .w32 .move .reg o s

def execArithmeticRightShiftImm32 (o : Operands) (s : State) : Result := runAlu .w32 .arithmeticRightShift .imm o s

def execArithmeticRightShiftReg32 (o : Operands) (s : State) : Result := runAlu .w32 .arithmeticRightShift .reg o s

/-! ## ALU-64 -/

def execAddImm64 (o : Operands) (s : State) : Result := runAlu .w64 .add .imm o s

def execAddReg64 (o : Operands) (s : State) : Result := runAlu .w64 .add .reg o s

def execSubImm64 (o : Operands) (s : State) : Result := runAlu .w64 .sub .imm o s

def execSubReg64 (o : Operands) (s : State) : Result := runAlu .w64 .sub .reg o s

def execMulImm64 (o : Operands) (s : State) : Result := runAlu .w64 .mul .imm o s

def execMulReg64 (o : Operands) (s : State) : Result := runAlu .w64 .mul .reg o s

def execDivImm64 (o : Operands) (s : State) : Result := runAlu .w64 .div .imm o s

def execDivReg64 (o : Operands) (s : State) : Result := runAlu .w64 .div .reg o s

def execOrImm64 (o : Operands) (s : State) : Result := runAlu .w64 .or .imm o s

def execOrReg64 (o : Operands) (s : State) : Result := runAlu .w64 .or .reg o s

def execAndImm64 (o : Operands) (s : State) : Result := runAlu .w64 .and .imm o s

def execAndReg64 (o : Operands) (s : State) : Result := runAlu .w64 .and .reg o s

def execLeftShiftImm64 (o : Operands) (s : State) : Result := runAlu .w64 .leftShift .imm o s

def execLeftShiftReg64 (o : Operands) (s : State) : Result := runAlu .w64 .leftShift .reg o s

def execRightShiftImm64 (o : Operands) (s : State) : Result := runAlu .w64 .rightShift .imm o s

def execRightShiftReg64 (o : Operands) (s : State) : Result := runAlu .w64 .rightShift .reg o s

def execNegateImm64 (o : Operands) (s : State) : Result := runAlu .w64 .negate .imm o s

def execNegateReg64 (o : Operands) (s : State) : Result := runAlu .w64 .negate .reg o s

def execModImm64 (o : Operands) (s : State) : Result := runAlu .w64 .mod .imm o s

def execModReg64 (o : Operands) (s : State) : Result := runAlu .w64 .mod .reg o s

def execXorImm64 (o : Operands) (s : State) : Result := runAlu .w64 .xor .imm o s

def execXorReg64 (o : Operands) (s : State) : Result := runAlu .w64 .xor .reg o s

def execMoveImm64 (o : Operands) (s : State) : Result := runAlu .w64 .move .imm o s

def execMoveReg64 (o : Operands) (s : State) : Result := runAlu .w64 .move .reg o s

def execArithmeticRightShiftImm64 (o : Operands) (s : State) : Result := runAlu .w64 .arithmeticRightShift .imm o s

def execArithmeticRightShiftReg64 (o : Operands) (s : State) : Result := runAlu .w64 .arithmeticRightShift .reg o s

end Sys2Proof.Machine
end

