-- ==== Sys2Proof/Machine/Fallback.lean ====
section
/-! DEFINITION. The 40 opcode bytes no named constant covers: they encode like any other (30_encoding.md R81) and decode
to the group's fallback, a defined value and no error (42_decoder.md R166, R169, R174, R175). -/

namespace Sys2Proof.Machine

/-- FB_LS_MODE: a load/store-group byte of mode 7 (R166). -/
def execUnrecognizedLs (c : LSClass) (z : Size) (o : Operands) (s : State) : Result :=
  present (unnamedLsRow c z o) (.unrecognized .ls) annNone s

/-- FB_ALU_OP: an ALU-group byte of operation 14 + n (R169). -/
def execUnrecognizedAlu (w : Width) (n : Fin 2) (k : SK) (o : Operands) (s : State) : Result :=
  present (unnamedAluRow w n k o) (.unrecognized .alu) annNone s

/-- FB_JMP_OP: a Jump-class byte of operation 10 + n (R174). -/
def execUnrecognizedJmp (n : Fin 6) (k : SK) (o : Operands) (s : State) : Result :=
  present (unnamedJmpRow n k o) (.unrecognized .jmp) annNone s

end Sys2Proof.Machine
end

