-- ==== Sys2Proof/Machine/Jump.lean ====
section
/-! DEFINITION. The Jump class: the 8 compare and control operations (42_decoder.md R170, R171; 43_render.md R205), Call
(R172, R206) and Exit (R173, R207). -/

namespace Sys2Proof.Machine

/-- A compare or control row: destination and offset are annotated, and by bit [3] the immediate or the source; Always is
not special-cased (R171). -/
def runJump (j : JmpOp) (k : SK) (o : Operands) (s : State) : Result :=
  present (jmpRow j k o) (.jmp j k) (annJmp k) s

/-- Call carries its immediate into the variant and shows no annotation; bit [3] is ignored (R172). -/
def execCall (k : SK) (o : Operands) (s : State) : Result := present (callRow k o) (.call o.imm) annNone s

/-- Exit shows no annotation, whatever its fields; bit [3] is ignored (R173). -/
def execExit (k : SK) (o : Operands) (s : State) : Result := present (exitRow k o) .exit annNone s

def execAlwaysImm (o : Operands) (s : State) : Result := runJump .always .imm o s

def execAlwaysReg (o : Operands) (s : State) : Result := runJump .always .reg o s

def execEqualImm (o : Operands) (s : State) : Result := runJump .equal .imm o s

def execEqualReg (o : Operands) (s : State) : Result := runJump .equal .reg o s

def execGreaterThanImm (o : Operands) (s : State) : Result := runJump .greaterThan .imm o s

def execGreaterThanReg (o : Operands) (s : State) : Result := runJump .greaterThan .reg o s

def execGreaterOrEqualImm (o : Operands) (s : State) : Result := runJump .greaterOrEqual .imm o s

def execGreaterOrEqualReg (o : Operands) (s : State) : Result := runJump .greaterOrEqual .reg o s

def execBitTestImm (o : Operands) (s : State) : Result := runJump .bitTest .imm o s

def execBitTestReg (o : Operands) (s : State) : Result := runJump .bitTest .reg o s

def execNotEqualImm (o : Operands) (s : State) : Result := runJump .notEqual .imm o s

def execNotEqualReg (o : Operands) (s : State) : Result := runJump .notEqual .reg o s

def execSignedGreaterThanImm (o : Operands) (s : State) : Result := runJump .signedGreaterThan .imm o s

def execSignedGreaterThanReg (o : Operands) (s : State) : Result := runJump .signedGreaterThan .reg o s

def execSignedGreaterOrEqualImm (o : Operands) (s : State) : Result := runJump .signedGreaterOrEqual .imm o s

def execSignedGreaterOrEqualReg (o : Operands) (s : State) : Result := runJump .signedGreaterOrEqual .reg o s

end Sys2Proof.Machine
end

