-- ==== Sys2Proof/Machine/LoadStore.lean ====
section
/-! DEFINITION. The load/store group: classes Load, LoadExtended, Store, StoreExtended and Return with a named mode
(42_decoder.md R164, R165; 43_render.md R202). Each row encodes as it stands and decodes to its class, mode and size; what
an execution engine does with it is outside the block (00_scope.md R5). -/

namespace Sys2Proof.Machine

/-- A load/store row: the variant with the XAdd tag exactly for the atomic-add mode, and the annotations of its mode. -/
def runLoadStore (c : LSClass) (m : Mode) (z : Size) (o : Operands) (s : State) : Result :=
  present (lsRow c m z o) (.ls c m z (decide (m = .xAdd))) (annLS m) s

/-! ## Class Load (0) -/

def execLdImmW (o : Operands) (s : State) : Result := runLoadStore .ld .imm .w o s

def execLdImmH (o : Operands) (s : State) : Result := runLoadStore .ld .imm .h o s

def execLdImmB (o : Operands) (s : State) : Result := runLoadStore .ld .imm .b o s

def execLdImmDW (o : Operands) (s : State) : Result := runLoadStore .ld .imm .dw o s

def execLdAbsW (o : Operands) (s : State) : Result := runLoadStore .ld .abs .w o s

def execLdAbsH (o : Operands) (s : State) : Result := runLoadStore .ld .abs .h o s

def execLdAbsB (o : Operands) (s : State) : Result := runLoadStore .ld .abs .b o s

def execLdAbsDW (o : Operands) (s : State) : Result := runLoadStore .ld .abs .dw o s

def execLdIndW (o : Operands) (s : State) : Result := runLoadStore .ld .ind .w o s

def execLdIndH (o : Operands) (s : State) : Result := runLoadStore .ld .ind .h o s

def execLdIndB (o : Operands) (s : State) : Result := runLoadStore .ld .ind .b o s

def execLdIndDW (o : Operands) (s : State) : Result := runLoadStore .ld .ind .dw o s

def execLdMemW (o : Operands) (s : State) : Result := runLoadStore .ld .mem .w o s

def execLdMemH (o : Operands) (s : State) : Result := runLoadStore .ld .mem .h o s

def execLdMemB (o : Operands) (s : State) : Result := runLoadStore .ld .mem .b o s

def execLdMemDW (o : Operands) (s : State) : Result := runLoadStore .ld .mem .dw o s

def execLdLenW (o : Operands) (s : State) : Result := runLoadStore .ld .len .w o s

def execLdLenH (o : Operands) (s : State) : Result := runLoadStore .ld .len .h o s

def execLdLenB (o : Operands) (s : State) : Result := runLoadStore .ld .len .b o s

def execLdLenDW (o : Operands) (s : State) : Result := runLoadStore .ld .len .dw o s

def execLdMshW (o : Operands) (s : State) : Result := runLoadStore .ld .msh .w o s

def execLdMshH (o : Operands) (s : State) : Result := runLoadStore .ld .msh .h o s

def execLdMshB (o : Operands) (s : State) : Result := runLoadStore .ld .msh .b o s

def execLdMshDW (o : Operands) (s : State) : Result := runLoadStore .ld .msh .dw o s

def execLdXAddW (o : Operands) (s : State) : Result := runLoadStore .ld .xAdd .w o s

def execLdXAddH (o : Operands) (s : State) : Result := runLoadStore .ld .xAdd .h o s

def execLdXAddB (o : Operands) (s : State) : Result := runLoadStore .ld .xAdd .b o s

def execLdXAddDW (o : Operands) (s : State) : Result := runLoadStore .ld .xAdd .dw o s

/-! ## Class LoadExtended (1) -/

def execLdXImmW (o : Operands) (s : State) : Result := runLoadStore .ldX .imm .w o s

def execLdXImmH (o : Operands) (s : State) : Result := runLoadStore .ldX .imm .h o s

def execLdXImmB (o : Operands) (s : State) : Result := runLoadStore .ldX .imm .b o s

def execLdXImmDW (o : Operands) (s : State) : Result := runLoadStore .ldX .imm .dw o s

def execLdXAbsW (o : Operands) (s : State) : Result := runLoadStore .ldX .abs .w o s

def execLdXAbsH (o : Operands) (s : State) : Result := runLoadStore .ldX .abs .h o s

def execLdXAbsB (o : Operands) (s : State) : Result := runLoadStore .ldX .abs .b o s

def execLdXAbsDW (o : Operands) (s : State) : Result := runLoadStore .ldX .abs .dw o s

def execLdXIndW (o : Operands) (s : State) : Result := runLoadStore .ldX .ind .w o s

def execLdXIndH (o : Operands) (s : State) : Result := runLoadStore .ldX .ind .h o s

def execLdXIndB (o : Operands) (s : State) : Result := runLoadStore .ldX .ind .b o s

def execLdXIndDW (o : Operands) (s : State) : Result := runLoadStore .ldX .ind .dw o s

def execLdXMemW (o : Operands) (s : State) : Result := runLoadStore .ldX .mem .w o s

def execLdXMemH (o : Operands) (s : State) : Result := runLoadStore .ldX .mem .h o s

def execLdXMemB (o : Operands) (s : State) : Result := runLoadStore .ldX .mem .b o s

def execLdXMemDW (o : Operands) (s : State) : Result := runLoadStore .ldX .mem .dw o s

def execLdXLenW (o : Operands) (s : State) : Result := runLoadStore .ldX .len .w o s

def execLdXLenH (o : Operands) (s : State) : Result := runLoadStore .ldX .len .h o s

def execLdXLenB (o : Operands) (s : State) : Result := runLoadStore .ldX .len .b o s

def execLdXLenDW (o : Operands) (s : State) : Result := runLoadStore .ldX .len .dw o s

def execLdXMshW (o : Operands) (s : State) : Result := runLoadStore .ldX .msh .w o s

def execLdXMshH (o : Operands) (s : State) : Result := runLoadStore .ldX .msh .h o s

def execLdXMshB (o : Operands) (s : State) : Result := runLoadStore .ldX .msh .b o s

def execLdXMshDW (o : Operands) (s : State) : Result := runLoadStore .ldX .msh .dw o s

def execLdXXAddW (o : Operands) (s : State) : Result := runLoadStore .ldX .xAdd .w o s

def execLdXXAddH (o : Operands) (s : State) : Result := runLoadStore .ldX .xAdd .h o s

def execLdXXAddB (o : Operands) (s : State) : Result := runLoadStore .ldX .xAdd .b o s

def execLdXXAddDW (o : Operands) (s : State) : Result := runLoadStore .ldX .xAdd .dw o s

/-! ## Class Store (2) -/

def execStImmW (o : Operands) (s : State) : Result := runLoadStore .st .imm .w o s

def execStImmH (o : Operands) (s : State) : Result := runLoadStore .st .imm .h o s

def execStImmB (o : Operands) (s : State) : Result := runLoadStore .st .imm .b o s

def execStImmDW (o : Operands) (s : State) : Result := runLoadStore .st .imm .dw o s

def execStAbsW (o : Operands) (s : State) : Result := runLoadStore .st .abs .w o s

def execStAbsH (o : Operands) (s : State) : Result := runLoadStore .st .abs .h o s

def execStAbsB (o : Operands) (s : State) : Result := runLoadStore .st .abs .b o s

def execStAbsDW (o : Operands) (s : State) : Result := runLoadStore .st .abs .dw o s

def execStIndW (o : Operands) (s : State) : Result := runLoadStore .st .ind .w o s

def execStIndH (o : Operands) (s : State) : Result := runLoadStore .st .ind .h o s

def execStIndB (o : Operands) (s : State) : Result := runLoadStore .st .ind .b o s

def execStIndDW (o : Operands) (s : State) : Result := runLoadStore .st .ind .dw o s

def execStMemW (o : Operands) (s : State) : Result := runLoadStore .st .mem .w o s

def execStMemH (o : Operands) (s : State) : Result := runLoadStore .st .mem .h o s

def execStMemB (o : Operands) (s : State) : Result := runLoadStore .st .mem .b o s

def execStMemDW (o : Operands) (s : State) : Result := runLoadStore .st .mem .dw o s

def execStLenW (o : Operands) (s : State) : Result := runLoadStore .st .len .w o s

def execStLenH (o : Operands) (s : State) : Result := runLoadStore .st .len .h o s

def execStLenB (o : Operands) (s : State) : Result := runLoadStore .st .len .b o s

def execStLenDW (o : Operands) (s : State) : Result := runLoadStore .st .len .dw o s

def execStMshW (o : Operands) (s : State) : Result := runLoadStore .st .msh .w o s

def execStMshH (o : Operands) (s : State) : Result := runLoadStore .st .msh .h o s

def execStMshB (o : Operands) (s : State) : Result := runLoadStore .st .msh .b o s

def execStMshDW (o : Operands) (s : State) : Result := runLoadStore .st .msh .dw o s

def execStXAddW (o : Operands) (s : State) : Result := runLoadStore .st .xAdd .w o s

def execStXAddH (o : Operands) (s : State) : Result := runLoadStore .st .xAdd .h o s

def execStXAddB (o : Operands) (s : State) : Result := runLoadStore .st .xAdd .b o s

def execStXAddDW (o : Operands) (s : State) : Result := runLoadStore .st .xAdd .dw o s

/-! ## Class StoreExtended (3) -/

def execStXImmW (o : Operands) (s : State) : Result := runLoadStore .stX .imm .w o s

def execStXImmH (o : Operands) (s : State) : Result := runLoadStore .stX .imm .h o s

def execStXImmB (o : Operands) (s : State) : Result := runLoadStore .stX .imm .b o s

def execStXImmDW (o : Operands) (s : State) : Result := runLoadStore .stX .imm .dw o s

def execStXAbsW (o : Operands) (s : State) : Result := runLoadStore .stX .abs .w o s

def execStXAbsH (o : Operands) (s : State) : Result := runLoadStore .stX .abs .h o s

def execStXAbsB (o : Operands) (s : State) : Result := runLoadStore .stX .abs .b o s

def execStXAbsDW (o : Operands) (s : State) : Result := runLoadStore .stX .abs .dw o s

def execStXIndW (o : Operands) (s : State) : Result := runLoadStore .stX .ind .w o s

def execStXIndH (o : Operands) (s : State) : Result := runLoadStore .stX .ind .h o s

def execStXIndB (o : Operands) (s : State) : Result := runLoadStore .stX .ind .b o s

def execStXIndDW (o : Operands) (s : State) : Result := runLoadStore .stX .ind .dw o s

def execStXMemW (o : Operands) (s : State) : Result := runLoadStore .stX .mem .w o s

def execStXMemH (o : Operands) (s : State) : Result := runLoadStore .stX .mem .h o s

def execStXMemB (o : Operands) (s : State) : Result := runLoadStore .stX .mem .b o s

def execStXMemDW (o : Operands) (s : State) : Result := runLoadStore .stX .mem .dw o s

def execStXLenW (o : Operands) (s : State) : Result := runLoadStore .stX .len .w o s

def execStXLenH (o : Operands) (s : State) : Result := runLoadStore .stX .len .h o s

def execStXLenB (o : Operands) (s : State) : Result := runLoadStore .stX .len .b o s

def execStXLenDW (o : Operands) (s : State) : Result := runLoadStore .stX .len .dw o s

def execStXMshW (o : Operands) (s : State) : Result := runLoadStore .stX .msh .w o s

def execStXMshH (o : Operands) (s : State) : Result := runLoadStore .stX .msh .h o s

def execStXMshB (o : Operands) (s : State) : Result := runLoadStore .stX .msh .b o s

def execStXMshDW (o : Operands) (s : State) : Result := runLoadStore .stX .msh .dw o s

def execStXXAddW (o : Operands) (s : State) : Result := runLoadStore .stX .xAdd .w o s

def execStXXAddH (o : Operands) (s : State) : Result := runLoadStore .stX .xAdd .h o s

def execStXXAddB (o : Operands) (s : State) : Result := runLoadStore .stX .xAdd .b o s

def execStXXAddDW (o : Operands) (s : State) : Result := runLoadStore .stX .xAdd .dw o s

/-! ## Class Return (6) -/

def execRetImmW (o : Operands) (s : State) : Result := runLoadStore .ret .imm .w o s

def execRetImmH (o : Operands) (s : State) : Result := runLoadStore .ret .imm .h o s

def execRetImmB (o : Operands) (s : State) : Result := runLoadStore .ret .imm .b o s

def execRetImmDW (o : Operands) (s : State) : Result := runLoadStore .ret .imm .dw o s

def execRetAbsW (o : Operands) (s : State) : Result := runLoadStore .ret .abs .w o s

def execRetAbsH (o : Operands) (s : State) : Result := runLoadStore .ret .abs .h o s

def execRetAbsB (o : Operands) (s : State) : Result := runLoadStore .ret .abs .b o s

def execRetAbsDW (o : Operands) (s : State) : Result := runLoadStore .ret .abs .dw o s

def execRetIndW (o : Operands) (s : State) : Result := runLoadStore .ret .ind .w o s

def execRetIndH (o : Operands) (s : State) : Result := runLoadStore .ret .ind .h o s

def execRetIndB (o : Operands) (s : State) : Result := runLoadStore .ret .ind .b o s

def execRetIndDW (o : Operands) (s : State) : Result := runLoadStore .ret .ind .dw o s

def execRetMemW (o : Operands) (s : State) : Result := runLoadStore .ret .mem .w o s

def execRetMemH (o : Operands) (s : State) : Result := runLoadStore .ret .mem .h o s

def execRetMemB (o : Operands) (s : State) : Result := runLoadStore .ret .mem .b o s

def execRetMemDW (o : Operands) (s : State) : Result := runLoadStore .ret .mem .dw o s

def execRetLenW (o : Operands) (s : State) : Result := runLoadStore .ret .len .w o s

def execRetLenH (o : Operands) (s : State) : Result := runLoadStore .ret .len .h o s

def execRetLenB (o : Operands) (s : State) : Result := runLoadStore .ret .len .b o s

def execRetLenDW (o : Operands) (s : State) : Result := runLoadStore .ret .len .dw o s

def execRetMshW (o : Operands) (s : State) : Result := runLoadStore .ret .msh .w o s

def execRetMshH (o : Operands) (s : State) : Result := runLoadStore .ret .msh .h o s

def execRetMshB (o : Operands) (s : State) : Result := runLoadStore .ret .msh .b o s

def execRetMshDW (o : Operands) (s : State) : Result := runLoadStore .ret .msh .dw o s

def execRetXAddW (o : Operands) (s : State) : Result := runLoadStore .ret .xAdd .w o s

def execRetXAddH (o : Operands) (s : State) : Result := runLoadStore .ret .xAdd .h o s

def execRetXAddB (o : Operands) (s : State) : Result := runLoadStore .ret .xAdd .b o s

def execRetXAddDW (o : Operands) (s : State) : Result := runLoadStore .ret .xAdd .dw o s

end Sys2Proof.Machine
end

