-- ==== Sys2Proof/Machine/TwoRecord.lean ====
section
/-! DEFINITION. The two pseudo-instructions whose expansion is two records (40_builder.md R111, R112). The decoder knows a
continuation only through the chain (30_encoding.md R86): the first node decodes as the named opcode 0x18, Load,
Immediate, DoubleWord, and the source nibble is opaque data (41_encoder.md R139). -/

namespace Sys2Proof.Machine

def execLoadImmediate64 (dst : Reg) (imm64 : BitVec 64) (s : State) : Result :=
  present (buildLoadImmediate64 dst imm64) (.ls .ld .imm .dw false) (annLS .imm) s

def execLoadMapFd (dst : Reg) (fd : BitVec 32) (s : State) : Result :=
  present (buildLoadMapFd dst fd) (.ls .ld .imm .dw false) (annLS .imm) s

end Sys2Proof.Machine
end

