-- ==== Sys2Proof/Machine/Dispatch.lean ====
section
/-! DEFINITION. One arm for each constructor of Instr. -/

namespace Sys2Proof.Machine

def exec (i : Instr) (s : State) : Host.Outcome State Fault Refusal :=
  match i with
  | .ldImmW o => Sys2Proof.Machine.execLdImmW o s
  | .ldImmH o => Sys2Proof.Machine.execLdImmH o s
  | .ldImmB o => Sys2Proof.Machine.execLdImmB o s
  | .ldImmDW o => Sys2Proof.Machine.execLdImmDW o s
  | .ldAbsW o => Sys2Proof.Machine.execLdAbsW o s
  | .ldAbsH o => Sys2Proof.Machine.execLdAbsH o s
  | .ldAbsB o => Sys2Proof.Machine.execLdAbsB o s
  | .ldAbsDW o => Sys2Proof.Machine.execLdAbsDW o s
  | .ldIndW o => Sys2Proof.Machine.execLdIndW o s
  | .ldIndH o => Sys2Proof.Machine.execLdIndH o s
  | .ldIndB o => Sys2Proof.Machine.execLdIndB o s
  | .ldIndDW o => Sys2Proof.Machine.execLdIndDW o s
  | .ldMemW o => Sys2Proof.Machine.execLdMemW o s
  | .ldMemH o => Sys2Proof.Machine.execLdMemH o s
  | .ldMemB o => Sys2Proof.Machine.execLdMemB o s
  | .ldMemDW o => Sys2Proof.Machine.execLdMemDW o s
  | .ldLenW o => Sys2Proof.Machine.execLdLenW o s
  | .ldLenH o => Sys2Proof.Machine.execLdLenH o s
  | .ldLenB o => Sys2Proof.Machine.execLdLenB o s
  | .ldLenDW o => Sys2Proof.Machine.execLdLenDW o s
  | .ldMshW o => Sys2Proof.Machine.execLdMshW o s
  | .ldMshH o => Sys2Proof.Machine.execLdMshH o s
  | .ldMshB o => Sys2Proof.Machine.execLdMshB o s
  | .ldMshDW o => Sys2Proof.Machine.execLdMshDW o s
  | .ldXAddW o => Sys2Proof.Machine.execLdXAddW o s
  | .ldXAddH o => Sys2Proof.Machine.execLdXAddH o s
  | .ldXAddB o => Sys2Proof.Machine.execLdXAddB o s
  | .ldXAddDW o => Sys2Proof.Machine.execLdXAddDW o s
  | .ldXImmW o => Sys2Proof.Machine.execLdXImmW o s
  | .ldXImmH o => Sys2Proof.Machine.execLdXImmH o s
  | .ldXImmB o => Sys2Proof.Machine.execLdXImmB o s
  | .ldXImmDW o => Sys2Proof.Machine.execLdXImmDW o s
  | .ldXAbsW o => Sys2Proof.Machine.execLdXAbsW o s
  | .ldXAbsH o => Sys2Proof.Machine.execLdXAbsH o s
  | .ldXAbsB o => Sys2Proof.Machine.execLdXAbsB o s
  | .ldXAbsDW o => Sys2Proof.Machine.execLdXAbsDW o s
  | .ldXIndW o => Sys2Proof.Machine.execLdXIndW o s
  | .ldXIndH o => Sys2Proof.Machine.execLdXIndH o s
  | .ldXIndB o => Sys2Proof.Machine.execLdXIndB o s
  | .ldXIndDW o => Sys2Proof.Machine.execLdXIndDW o s
  | .ldXMemW o => Sys2Proof.Machine.execLdXMemW o s
  | .ldXMemH o => Sys2Proof.Machine.execLdXMemH o s
  | .ldXMemB o => Sys2Proof.Machine.execLdXMemB o s
  | .ldXMemDW o => Sys2Proof.Machine.execLdXMemDW o s
  | .ldXLenW o => Sys2Proof.Machine.execLdXLenW o s
  | .ldXLenH o => Sys2Proof.Machine.execLdXLenH o s
  | .ldXLenB o => Sys2Proof.Machine.execLdXLenB o s
  | .ldXLenDW o => Sys2Proof.Machine.execLdXLenDW o s
  | .ldXMshW o => Sys2Proof.Machine.execLdXMshW o s
  | .ldXMshH o => Sys2Proof.Machine.execLdXMshH o s
  | .ldXMshB o => Sys2Proof.Machine.execLdXMshB o s
  | .ldXMshDW o => Sys2Proof.Machine.execLdXMshDW o s
  | .ldXXAddW o => Sys2Proof.Machine.execLdXXAddW o s
  | .ldXXAddH o => Sys2Proof.Machine.execLdXXAddH o s
  | .ldXXAddB o => Sys2Proof.Machine.execLdXXAddB o s
  | .ldXXAddDW o => Sys2Proof.Machine.execLdXXAddDW o s
  | .stImmW o => Sys2Proof.Machine.execStImmW o s
  | .stImmH o => Sys2Proof.Machine.execStImmH o s
  | .stImmB o => Sys2Proof.Machine.execStImmB o s
  | .stImmDW o => Sys2Proof.Machine.execStImmDW o s
  | .stAbsW o => Sys2Proof.Machine.execStAbsW o s
  | .stAbsH o => Sys2Proof.Machine.execStAbsH o s
  | .stAbsB o => Sys2Proof.Machine.execStAbsB o s
  | .stAbsDW o => Sys2Proof.Machine.execStAbsDW o s
  | .stIndW o => Sys2Proof.Machine.execStIndW o s
  | .stIndH o => Sys2Proof.Machine.execStIndH o s
  | .stIndB o => Sys2Proof.Machine.execStIndB o s
  | .stIndDW o => Sys2Proof.Machine.execStIndDW o s
  | .stMemW o => Sys2Proof.Machine.execStMemW o s
  | .stMemH o => Sys2Proof.Machine.execStMemH o s
  | .stMemB o => Sys2Proof.Machine.execStMemB o s
  | .stMemDW o => Sys2Proof.Machine.execStMemDW o s
  | .stLenW o => Sys2Proof.Machine.execStLenW o s
  | .stLenH o => Sys2Proof.Machine.execStLenH o s
  | .stLenB o => Sys2Proof.Machine.execStLenB o s
  | .stLenDW o => Sys2Proof.Machine.execStLenDW o s
  | .stMshW o => Sys2Proof.Machine.execStMshW o s
  | .stMshH o => Sys2Proof.Machine.execStMshH o s
  | .stMshB o => Sys2Proof.Machine.execStMshB o s
  | .stMshDW o => Sys2Proof.Machine.execStMshDW o s
  | .stXAddW o => Sys2Proof.Machine.execStXAddW o s
  | .stXAddH o => Sys2Proof.Machine.execStXAddH o s
  | .stXAddB o => Sys2Proof.Machine.execStXAddB o s
  | .stXAddDW o => Sys2Proof.Machine.execStXAddDW o s
  | .stXImmW o => Sys2Proof.Machine.execStXImmW o s
  | .stXImmH o => Sys2Proof.Machine.execStXImmH o s
  | .stXImmB o => Sys2Proof.Machine.execStXImmB o s
  | .stXImmDW o => Sys2Proof.Machine.execStXImmDW o s
  | .stXAbsW o => Sys2Proof.Machine.execStXAbsW o s
  | .stXAbsH o => Sys2Proof.Machine.execStXAbsH o s
  | .stXAbsB o => Sys2Proof.Machine.execStXAbsB o s
  | .stXAbsDW o => Sys2Proof.Machine.execStXAbsDW o s
  | .stXIndW o => Sys2Proof.Machine.execStXIndW o s
  | .stXIndH o => Sys2Proof.Machine.execStXIndH o s
  | .stXIndB o => Sys2Proof.Machine.execStXIndB o s
  | .stXIndDW o => Sys2Proof.Machine.execStXIndDW o s
  | .stXMemW o => Sys2Proof.Machine.execStXMemW o s
  | .stXMemH o => Sys2Proof.Machine.execStXMemH o s
  | .stXMemB o => Sys2Proof.Machine.execStXMemB o s
  | .stXMemDW o => Sys2Proof.Machine.execStXMemDW o s
  | .stXLenW o => Sys2Proof.Machine.execStXLenW o s
  | .stXLenH o => Sys2Proof.Machine.execStXLenH o s
  | .stXLenB o => Sys2Proof.Machine.execStXLenB o s
  | .stXLenDW o => Sys2Proof.Machine.execStXLenDW o s
  | .stXMshW o => Sys2Proof.Machine.execStXMshW o s
  | .stXMshH o => Sys2Proof.Machine.execStXMshH o s
  | .stXMshB o => Sys2Proof.Machine.execStXMshB o s
  | .stXMshDW o => Sys2Proof.Machine.execStXMshDW o s
  | .stXXAddW o => Sys2Proof.Machine.execStXXAddW o s
  | .stXXAddH o => Sys2Proof.Machine.execStXXAddH o s
  | .stXXAddB o => Sys2Proof.Machine.execStXXAddB o s
  | .stXXAddDW o => Sys2Proof.Machine.execStXXAddDW o s
  | .retImmW o => Sys2Proof.Machine.execRetImmW o s
  | .retImmH o => Sys2Proof.Machine.execRetImmH o s
  | .retImmB o => Sys2Proof.Machine.execRetImmB o s
  | .retImmDW o => Sys2Proof.Machine.execRetImmDW o s
  | .retAbsW o => Sys2Proof.Machine.execRetAbsW o s
  | .retAbsH o => Sys2Proof.Machine.execRetAbsH o s
  | .retAbsB o => Sys2Proof.Machine.execRetAbsB o s
  | .retAbsDW o => Sys2Proof.Machine.execRetAbsDW o s
  | .retIndW o => Sys2Proof.Machine.execRetIndW o s
  | .retIndH o => Sys2Proof.Machine.execRetIndH o s
  | .retIndB o => Sys2Proof.Machine.execRetIndB o s
  | .retIndDW o => Sys2Proof.Machine.execRetIndDW o s
  | .retMemW o => Sys2Proof.Machine.execRetMemW o s
  | .retMemH o => Sys2Proof.Machine.execRetMemH o s
  | .retMemB o => Sys2Proof.Machine.execRetMemB o s
  | .retMemDW o => Sys2Proof.Machine.execRetMemDW o s
  | .retLenW o => Sys2Proof.Machine.execRetLenW o s
  | .retLenH o => Sys2Proof.Machine.execRetLenH o s
  | .retLenB o => Sys2Proof.Machine.execRetLenB o s
  | .retLenDW o => Sys2Proof.Machine.execRetLenDW o s
  | .retMshW o => Sys2Proof.Machine.execRetMshW o s
  | .retMshH o => Sys2Proof.Machine.execRetMshH o s
  | .retMshB o => Sys2Proof.Machine.execRetMshB o s
  | .retMshDW o => Sys2Proof.Machine.execRetMshDW o s
  | .retXAddW o => Sys2Proof.Machine.execRetXAddW o s
  | .retXAddH o => Sys2Proof.Machine.execRetXAddH o s
  | .retXAddB o => Sys2Proof.Machine.execRetXAddB o s
  | .retXAddDW o => Sys2Proof.Machine.execRetXAddDW o s
  | .addImm32 o => Sys2Proof.Machine.execAddImm32 o s
  | .addImm64 o => Sys2Proof.Machine.execAddImm64 o s
  | .addReg32 o => Sys2Proof.Machine.execAddReg32 o s
  | .addReg64 o => Sys2Proof.Machine.execAddReg64 o s
  | .subImm32 o => Sys2Proof.Machine.execSubImm32 o s
  | .subImm64 o => Sys2Proof.Machine.execSubImm64 o s
  | .subReg32 o => Sys2Proof.Machine.execSubReg32 o s
  | .subReg64 o => Sys2Proof.Machine.execSubReg64 o s
  | .mulImm32 o => Sys2Proof.Machine.execMulImm32 o s
  | .mulImm64 o => Sys2Proof.Machine.execMulImm64 o s
  | .mulReg32 o => Sys2Proof.Machine.execMulReg32 o s
  | .mulReg64 o => Sys2Proof.Machine.execMulReg64 o s
  | .divImm32 o => Sys2Proof.Machine.execDivImm32 o s
  | .divImm64 o => Sys2Proof.Machine.execDivImm64 o s
  | .divReg32 o => Sys2Proof.Machine.execDivReg32 o s
  | .divReg64 o => Sys2Proof.Machine.execDivReg64 o s
  | .orImm32 o => Sys2Proof.Machine.execOrImm32 o s
  | .orImm64 o => Sys2Proof.Machine.execOrImm64 o s
  | .orReg32 o => Sys2Proof.Machine.execOrReg32 o s
  | .orReg64 o => Sys2Proof.Machine.execOrReg64 o s
  | .andImm32 o => Sys2Proof.Machine.execAndImm32 o s
  | .andImm64 o => Sys2Proof.Machine.execAndImm64 o s
  | .andReg32 o => Sys2Proof.Machine.execAndReg32 o s
  | .andReg64 o => Sys2Proof.Machine.execAndReg64 o s
  | .leftShiftImm32 o => Sys2Proof.Machine.execLeftShiftImm32 o s
  | .leftShiftImm64 o => Sys2Proof.Machine.execLeftShiftImm64 o s
  | .leftShiftReg32 o => Sys2Proof.Machine.execLeftShiftReg32 o s
  | .leftShiftReg64 o => Sys2Proof.Machine.execLeftShiftReg64 o s
  | .rightShiftImm32 o => Sys2Proof.Machine.execRightShiftImm32 o s
  | .rightShiftImm64 o => Sys2Proof.Machine.execRightShiftImm64 o s
  | .rightShiftReg32 o => Sys2Proof.Machine.execRightShiftReg32 o s
  | .rightShiftReg64 o => Sys2Proof.Machine.execRightShiftReg64 o s
  | .negateImm32 o => Sys2Proof.Machine.execNegateImm32 o s
  | .negateImm64 o => Sys2Proof.Machine.execNegateImm64 o s
  | .negateReg32 o => Sys2Proof.Machine.execNegateReg32 o s
  | .negateReg64 o => Sys2Proof.Machine.execNegateReg64 o s
  | .modImm32 o => Sys2Proof.Machine.execModImm32 o s
  | .modImm64 o => Sys2Proof.Machine.execModImm64 o s
  | .modReg32 o => Sys2Proof.Machine.execModReg32 o s
  | .modReg64 o => Sys2Proof.Machine.execModReg64 o s
  | .xorImm32 o => Sys2Proof.Machine.execXorImm32 o s
  | .xorImm64 o => Sys2Proof.Machine.execXorImm64 o s
  | .xorReg32 o => Sys2Proof.Machine.execXorReg32 o s
  | .xorReg64 o => Sys2Proof.Machine.execXorReg64 o s
  | .moveImm32 o => Sys2Proof.Machine.execMoveImm32 o s
  | .moveImm64 o => Sys2Proof.Machine.execMoveImm64 o s
  | .moveReg32 o => Sys2Proof.Machine.execMoveReg32 o s
  | .moveReg64 o => Sys2Proof.Machine.execMoveReg64 o s
  | .arithmeticRightShiftImm32 o => Sys2Proof.Machine.execArithmeticRightShiftImm32 o s
  | .arithmeticRightShiftImm64 o => Sys2Proof.Machine.execArithmeticRightShiftImm64 o s
  | .arithmeticRightShiftReg32 o => Sys2Proof.Machine.execArithmeticRightShiftReg32 o s
  | .arithmeticRightShiftReg64 o => Sys2Proof.Machine.execArithmeticRightShiftReg64 o s
  | .endian w k o => Sys2Proof.Machine.execEndian w k o s
  | .alwaysImm o => Sys2Proof.Machine.execAlwaysImm o s
  | .alwaysReg o => Sys2Proof.Machine.execAlwaysReg o s
  | .equalImm o => Sys2Proof.Machine.execEqualImm o s
  | .equalReg o => Sys2Proof.Machine.execEqualReg o s
  | .greaterThanImm o => Sys2Proof.Machine.execGreaterThanImm o s
  | .greaterThanReg o => Sys2Proof.Machine.execGreaterThanReg o s
  | .greaterOrEqualImm o => Sys2Proof.Machine.execGreaterOrEqualImm o s
  | .greaterOrEqualReg o => Sys2Proof.Machine.execGreaterOrEqualReg o s
  | .bitTestImm o => Sys2Proof.Machine.execBitTestImm o s
  | .bitTestReg o => Sys2Proof.Machine.execBitTestReg o s
  | .notEqualImm o => Sys2Proof.Machine.execNotEqualImm o s
  | .notEqualReg o => Sys2Proof.Machine.execNotEqualReg o s
  | .signedGreaterThanImm o => Sys2Proof.Machine.execSignedGreaterThanImm o s
  | .signedGreaterThanReg o => Sys2Proof.Machine.execSignedGreaterThanReg o s
  | .signedGreaterOrEqualImm o => Sys2Proof.Machine.execSignedGreaterOrEqualImm o s
  | .signedGreaterOrEqualReg o => Sys2Proof.Machine.execSignedGreaterOrEqualReg o s
  | .call k o => Sys2Proof.Machine.execCall k o s
  | .exit k o => Sys2Proof.Machine.execExit k o s
  | .unrecognizedJmp n k o => Sys2Proof.Machine.execUnrecognizedJmp n k o s
  | .unrecognizedLs c z o => Sys2Proof.Machine.execUnrecognizedLs c z o s
  | .unrecognizedAlu w n k o => Sys2Proof.Machine.execUnrecognizedAlu w n k o s
  | .loadImmediate64 dst imm64 => Sys2Proof.Machine.execLoadImmediate64 dst imm64 s
  | .loadMapFd dst fd => Sys2Proof.Machine.execLoadMapFd dst fd s

end Sys2Proof.Machine
end

