-- ==== Sys2Proof/Machine/Step.lean ====
section
/-! DEFINITION. One step: the next builder call presented to the block builds its descriptor, and the instruction of the
table which that descriptor is runs. The block fetches nothing (10_state.md R28): its input is the builder interface
(30_encoding.md R89), held here as a queue. -/

namespace Sys2Proof.Machine

/-- The instruction of the table which a builder call presents. -/
def presentedInstr (c : BuilderCall) : Instr := ofInstruction c.build

/-- One step. With nothing presented the outputs of a combinational block do not change (R11, R20; notes/assumptions/2). -/
def step (s : State) : Host.Outcome State Fault Refusal :=
  match s.input with
  | [] => .next s
  | c :: rest => exec (presentedInstr c) { s with input := rest }

/-- The state with the instruction that a table word numbers presented next, as the descriptor whose records the word
numbers (notes/assumptions/3, 11). -/
def State.withFetchWord (s : State) (nbits w : Nat) : State :=
  match instructionOfBytes .little (bytesOfTableWord nbits w) with
  | .ok x => { s with input := .given x :: s.input }
  | .error _ => s

end Sys2Proof.Machine
end

