-- ==== Sys2Proof/Safety.lean ====
section
/-! DEFINITION. What counts as a right state: everything the machine holds of the block's outputs is what the block's
functions give for the program held (20_memory.md R55, R62; 43_render.md R212; 42_decoder.md R160), and what counts as a
safe step. -/

namespace Sys2Proof.Machine

/-- Bytes as cells at rising offsets from `a` on. -/
def cellsFrom (a : Nat) : List Byte → Memory
  | [] => []
  | b :: bs => (a, b) :: cellsFrom (a + 1) bs

/-- What the block gives for a descriptor, by the decoder's own algorithm and not by the row's meaning. -/
def blockOutput (i : Instruction) : Output := outputFor i (classify i).1 (classify i).2

/-- The stream is the encoding of the program, the listing its listing, and the last output that of its last instruction.
-/
structure State.Consistent (s : State) : Prop where
  stream_wf : s.stream.wf
  stream_eq : s.stream = cellsFrom 0 (encodeProgram Config.wireOrder s.program)
  listing_eq : s.listing = programListing Config.helperName s.program
  output_eq : s.output = s.program.getLast?.map blockOutput

/-- The state after descriptor `x` was processed to the end: the program is one instruction longer (R27), the records of
its chain stand from `8 × recIndex(P, len(P))` on (R28, R55), the listing has its lines at its end (R212), and the outputs
are the ones given. -/
def State.after (s : State) (x : Instruction) (line : String) (d : Decoded) (a : Ann) (fb : Option FallbackCode) : State :=
  { input := s.input
    program := s.program ++ [x]
    stream := s.stream.writeBytes (8 * recIndex s.program s.program.length)
      (recordBytes (x.chain.map (encodeRecord Config.wireOrder)))
    listing := s.listing ++ (dec s.program.length ++ ": " ++ line ++ "\n"
      ++ continuationLines Config.helperName s.program.length 1 x.chain.tail)
    output := some
      { instruction := x, records := x.chain.map (encodeRecord Config.wireOrder), decoded := d, ann := a, line := line,
        fallback := fb } }

/-- A step is safe where it completes: the block raises nothing and stops nowhere (R300). -/
def SafeStep (s : State) : Prop := ∃ t, step s = .next t

end Sys2Proof.Machine
end

