-- ==== Sys2Proof/WellFormed.lean ====
section
/-! DEFINITION. When the wire bytes of an instruction determine it. The machine does not check this: the builder and the
block accept every value verbatim (40_builder.md R100), so an instruction that is not well-formed runs all the same
(notes/assumptions/12). -/

namespace Sys2Proof

/-- Both registers of a node fit the record's 4-bit fields, so that encoding loses nothing (R131, R140). -/
def nodeFits (n : Node) : Bool := decide (n.dst.toNat < 16) && decide (n.src.toNat < 16)

/-- Every node of the chain fits. -/
def Instruction.fits (x : Instruction) : Bool := x.chain.all fun c => nodeFits c.node

/-- A descriptor of a two-record shape is written as its two-record row, not as the row of opcode byte 0x18 with that
continuation as an operand. -/
def Instr.canonical (i : Instr) : Bool :=
  match twoRecordRow i.toInstruction with
  | none => true
  | some j => decide (i = j)

def Instr.wellFormed (i : Instr) : Bool := i.canonical && i.toInstruction.fits

end Sys2Proof
end

