-- ==== Sys2Proof/Certificates/Slice0/Obligations.lean ====
section
/-! DEFINITION. The statements for the provers. Each docstring names the rule of spec/ it formalises, or the log entry a
clause rests on where that clause is the model's own. -/

open Sys2Proof Sys2Proof.Machine

/-! ## The register pair and the record -/

/-- R131: `nib(r) = r[3:0]`, with the rule's corner cases. -/
def Obligations.NibKeepsLowFourBits : Prop :=
  (∀ r : Reg, (nib r).toNat = r.toNat % 16) ∧ nib 16 = 0 ∧ nib 17 = 1 ∧ nib 255 = 15 ∧ nib 10 = 10

/-- R132: `pack(dst, src) = nib(src) ++ nib(dst)`, which is `trunc_8((zext(d) & 0x0F) | (zext(s) << 4))`; destination in
bits [3:0], source in bits [7:4]; the rule's corner cases. -/
def Obligations.PackHoldsBothNibbles : Prop :=
  (∀ d s : Reg, pack d s = nib s ++ nib d ∧ (pack d s).extractLsb' 0 4 = nib d ∧ (pack d s).extractLsb' 4 4 = nib s ∧
    pack d s = (((d.setWidth 16 &&& 0x0F) ||| (s.setWidth 16 <<< 4)).setWidth 8 : Byte)) ∧
  pack 0 0 = 0x00 ∧ pack 15 15 = 0xFF ∧ pack 1 1 = 0x11 ∧ pack 10 0 = 0x0A ∧ pack 0 10 = 0xA0 ∧ pack 17 18 = 0x21 ∧
  pack 16 16 = 0x00 ∧ pack 3 3 = 0x33 ∧ pack 3 4 = 0x43

/-- R133: `unpack(b) = (b[3:0], b[7:4])`; `unpack(pack(d, s)) = (nib(d), nib(s))`, which is (d, s) itself on 4-bit values;
`pack(unpack(b)) = b`. -/
def Obligations.UnpackInvertsPack : Prop :=
  (∀ b : Byte, unpack b = (b.extractLsb' 0 4, b.extractLsb' 4 4)) ∧
  (∀ d s : Reg, unpack (pack d s) = (nib d, nib s)) ∧
  (∀ d s : BitVec 4, unpack (pack (d.setWidth 8) (s.setWidth 8)) = (d, s)) ∧
  (∀ b : Byte, pack ((unpack b).1.setWidth 8) ((unpack b).2.setWidth 8) = b)

/-- R134, its multi-byte fields laid out as R9's `ser`: the eight bytes of a record in both orders; the continuation is
not read. -/
def Obligations.RecordLayout : Prop :=
  (∀ i : Instruction, (encodeRecord .little i).bytes =
    [i.opcode, pack i.dst i.src, i.off.extractLsb' 0 8, i.off.extractLsb' 8 8,
     i.imm.extractLsb' 0 8, i.imm.extractLsb' 8 8, i.imm.extractLsb' 16 8, i.imm.extractLsb' 24 8]) ∧
  (∀ i : Instruction, (encodeRecord .big i).bytes =
    [i.opcode, pack i.dst i.src, i.off.extractLsb' 8 8, i.off.extractLsb' 0 8,
     i.imm.extractLsb' 24 8, i.imm.extractLsb' 16 8, i.imm.extractLsb' 8 8, i.imm.extractLsb' 0 8]) ∧
  (∀ (wo : WireOrder) (n : Node) (c : Instruction), encodeRecord wo (.linked n c) = encodeRecord wo (.last n))

/-- R54: the fields of a record seen as one 64-bit little-endian word, for both values of `wireOrder`. -/
def Obligations.RecordAsLittleEndianWord : Prop :=
  (∀ (wo : WireOrder) (i : Instruction), (encodeRecord wo i).word.extractLsb' 0 8 = i.opcode ∧
    (encodeRecord wo i).word.extractLsb' 8 4 = nib i.dst ∧ (encodeRecord wo i).word.extractLsb' 12 4 = nib i.src) ∧
  (∀ i : Instruction, (encodeRecord .little i).word.extractLsb' 16 16 = i.off ∧
    (encodeRecord .little i).word.extractLsb' 32 32 = i.imm) ∧
  (∀ i : Instruction,
    (encodeRecord .big i).word.extractLsb' 16 16 = i.off.extractLsb' 0 8 ++ i.off.extractLsb' 8 8 ∧
    (encodeRecord .big i).word.extractLsb' 32 32 =
      i.imm.extractLsb' 0 8 ++ i.imm.extractLsb' 8 8 ++ i.imm.extractLsb' 16 8 ++ i.imm.extractLsb' 24 8)

/-- R139: the encoder reads no field of the opcode: another opcode byte changes byte 0 of the record and nothing else. -/
def Obligations.EncoderDoesNotClassify : Prop :=
  ∀ (wo : WireOrder) (op op' : Byte) (o : Operands),
    encodeRecord wo (o.withOpcode op') = { encodeRecord wo (o.withOpcode op) with b0 := op' }

/-- R140: read back with its byte order, a record gives every field of its node, the registers cut to 4 bits. The reading
function is the model's (log entry 9). -/
def Obligations.RecordLosesOnlyHighRegisterBits : Prop :=
  ∀ (wo : WireOrder) (i : Instruction), nodeOfRecord wo (encodeRecord wo i) =
    { opcode := i.opcode, dst := (nib i.dst).setWidth 8, src := (nib i.src).setWidth 8, off := i.off, imm := i.imm }

/-! ## Chains and programs -/

/-- R136: one record a node in chain order, parent first (R24). -/
def Obligations.EncodeWalksTheChain : Prop :=
  ∀ (wo : WireOrder) (i : Instruction),
    (i.cont = none → i.encode wo = [encodeRecord wo i]) ∧
    (∀ c, i.cont = some c → i.encode wo = encodeRecord wo i :: c.encode wo)

/-- R137 and the length of R138: a program's stream is its instructions' records back to back, 8 bytes a node. -/
def Obligations.ProgramStreamIsConcatenation : Prop :=
  ∀ wo : WireOrder, encodeProgram wo [] = [] ∧
    (∀ (P : Program) (i : Instruction),
      encodeProgram wo (append P i) = encodeProgram wo P ++ (i.chain.map fun c => (encodeRecord wo c).bytes).flatten) ∧
    (∀ i : Instruction, (recordBytes (i.encode wo)).length = 8 * i.chain.length) ∧
    (∀ P : Program, (encodeProgram wo P).length = 8 * (P.map fun i => i.chain.length).sum)

/-- R55: record k of a program's stream, continuation records counted, occupies bytes 8k to 8k+7, and the stream is 8
bytes for each record. -/
def Obligations.RecordKOccupiesItsEightBytes : Prop :=
  ∀ (wo : WireOrder) (P : Program),
    (encodeProgram wo P).length = 8 * (P.flatMap fun i => i.encode wo).length ∧
    ∀ (k : Nat) (r : Record), (P.flatMap fun i => i.encode wo)[k]? = some r →
      ((encodeProgram wo P).drop (8 * k)).take 8 = r.bytes

/-- R28: the records of the instruction at position p start at byte offset `8 × recIndex(P, p)`, and recIndex counts the
records of the instructions before it. -/
def Obligations.InstructionStartsAtItsByteOffset : Prop :=
  ∀ (wo : WireOrder) (P : Program) (p : Nat) (i : Instruction), P[p]? = some i →
    recIndex P p = ((P.take p).flatMap fun j => j.encode wo).length ∧
    ((encodeProgram wo P).drop (8 * recIndex P p)).take (8 * i.chain.length) = recordBytes (i.encode wo)

/-! ## The builder -/

/-- R102 to R110: each shape constructor sets the fields it takes and makes no continuation; that it leaves every other
field 0 is the spec's own decision D6 (log entry 17). -/
def Obligations.ShapeConstructorsSetTheirFields : Prop :=
  ∀ (op : Byte) (dst src : Reg) (off : Off) (imm : Imm),
    (BuilderCall.op op).build = .last ⟨op, 0, 0, 0, 0⟩ ∧
    (BuilderCall.d op dst).build = .last ⟨op, dst, 0, 0, 0⟩ ∧
    (BuilderCall.i op imm).build = .last ⟨op, 0, 0, 0, imm⟩ ∧
    (BuilderCall.di op dst imm).build = .last ⟨op, dst, 0, 0, imm⟩ ∧
    (BuilderCall.ds op dst src).build = .last ⟨op, dst, src, 0, 0⟩ ∧
    (BuilderCall.doi op dst off imm).build = .last ⟨op, dst, 0, off, imm⟩ ∧
    (BuilderCall.dso op dst src off).build = .last ⟨op, dst, src, off, 0⟩ ∧
    (BuilderCall.dsi op dst src imm).build = .last ⟨op, dst, src, 0, imm⟩ ∧
    (BuilderCall.dsoi op dst src off imm).build = .last ⟨op, dst, src, off, imm⟩

/-- R135: every single-record constructor gives exactly one record, whose first byte is the opcode supplied. -/
def Obligations.ShapeConstructorsGiveOneRecord : Prop :=
  ∀ (wo : WireOrder) (op : Byte) (dst src : Reg) (off : Off) (imm : Imm),
    ∀ c ∈ [BuilderCall.op op, .d op dst, .i op imm, .di op dst imm, .ds op dst src, .doi op dst off imm,
      .dso op dst src off, .dsi op dst src imm, .dsoi op dst src off imm],
      ∃ r : Record, c.build.encode wo = [r] ∧ r.b0 = op

/-- R111 (with R86, R87): the two nodes of `load-immediate64`, and the value a consumer assembles from the records'
immediates is `imm64` again (R85). The opcode's value, the first record's offset 0 and the split on bits are decisions D3,
D7 and D9 (log entries 8, 17). -/
def Obligations.LoadImmediate64SplitsOnBits : Prop :=
  ∀ (dst : Reg) (imm64 : BitVec 64),
    (BuilderCall.loadImmediate64 dst imm64).build =
      .linked ⟨0x18, dst, 0, 0, imm64.extractLsb' 0 32⟩ (.last ⟨0, 0, 0, 0, imm64.extractLsb' 32 32⟩) ∧
    assembleImm64 (imm64.extractLsb' 0 32) (imm64.extractLsb' 32 32) = imm64

/-- R112: `load-map-fd(dst, fd)` is `load-immediate64(dst, zext_64(fd))` with source 1 in the first node only. The opcode's
value 0x18 is decision D3 (log entry 8); the first node's offset 0 and the continuation's immediate 0 are decisions D7 and
D8 (log entry 17). -/
def Obligations.LoadMapFdIsTheSameShapeWithSourceOne : Prop :=
  ∀ (dst : Reg) (fd : BitVec 32),
    (BuilderCall.loadMapFd dst fd).build = .linked ⟨0x18, dst, 1, 0, fd⟩ (.last ⟨0, 0, 0, 0, 0⟩) ∧
    ∀ (n : Node) (c : Instruction), (BuilderCall.loadImmediate64 dst (fd.setWidth 64)).build = .linked n c →
      (BuilderCall.loadMapFd dst fd).build = .linked { n with src := 1 } c

/-- R112, R139: the records of `load-map-fd(dst, fd)` and `load-immediate64(dst, zext_64(fd))` differ in byte 1 of the
first record alone (with the high half 0 of decision D8, log entry 17). -/
def Obligations.SourceNibbleIsTheSoleDiscriminator : Prop :=
  ∀ (wo : WireOrder) (dst : Reg) (fd : BitVec 32), ∃ r c : Record,
    (BuilderCall.loadImmediate64 dst (fd.setWidth 64)).build.encode wo = [r, c] ∧
    (BuilderCall.loadMapFd dst fd).build.encode wo = [{ r with b1 := 0x10 ||| r.b1 }, c] ∧
    (unpack r.b1).2 = 0 ∧ (unpack (0x10 ||| r.b1)).2 = 1

/-- R113, R25: of the builder's own forms only the two pseudo-instructions make a continuation, and their chains have
length exactly 2; every other has length 1. A given descriptor is no form of the builder's. -/
def Obligations.BuilderChainsHaveLengthOneOrTwo : Prop :=
  ∀ c : BuilderCall, (∀ i, c ≠ .given i) →
    c.build.chain.length = if (∃ d v, c = .loadImmediate64 d v) ∨ (∃ d f, c = .loadMapFd d f) then 2 else 1

/-! ## The decoder's classification -/

/-- R71, R161: the bit groups of either form partition the opcode byte, so composing them (R78) gives it back. -/
def Obligations.OpcodeFieldsPartitionTheByte : Prop :=
  ∀ op : Byte, lsCompose (modeField op) (sizeField op) (clsField op) = op ∧
    opCompose (aopField op) (skField op) (clsField op) = op

/-- R164 to R166: a load/store-group byte decodes to its class, mode and size, tagged XAdd exactly for the atomic-add mode,
with {src, imm} for Absolute and Indirect and all four annotations else; with mode 7 to the fallback. The field values are
decision D2 (log entry 8), the annotation sets of the modes the source does not spell out D12, and that Return is of this
group D30 (log entry 19). -/
def Obligations.LoadStoreGroupDecodes : Prop :=
  ∀ i : Instruction,
    (∀ c m z, i.opcode = lsOpcode c m z → classify i =
      (.ls c m z (decide (m = .xAdd)),
        if m = .abs ∨ m = .ind then ⟨false, true, false, true⟩ else ⟨true, true, true, true⟩)) ∧
    (∀ c z, i.opcode = unnamedLsOpcode c z → classify i = (.unrecognized .ls, ⟨false, false, false, false⟩))

/-- R167 to R169: an ALU-group byte decodes to its width, operation and source kind with {dst} and imm or src; the endian
swap with {dst, imm} whatever bit [3]; operations 14 and 15 to the fallback. The field values are decision D2 (log entry
8), the endian swap's set and its ignored bit D12 and D23 (log entry 19). -/
def Obligations.AluGroupDecodes : Prop :=
  ∀ i : Instruction,
    (∀ w o k, i.opcode = aluOpcode w o k → classify i =
      (.alu w o k, if k = .imm then ⟨true, false, false, true⟩ else ⟨true, true, false, false⟩)) ∧
    (∀ w k, i.opcode = endianOpcode w k → classify i = (.endian w k, ⟨true, false, false, true⟩)) ∧
    (∀ w n k, i.opcode = unnamedAluOpcode w n k → classify i = (.unrecognized .alu, ⟨false, false, false, false⟩))

/-- R170 to R174: a Jump-class byte decodes to its operation and source kind with {dst, off} and imm or src, Always like
the rest; Call carries the immediate and Exit nothing, neither with an annotation; operations 10 to 15 to the fallback.
The field values are decision D2 (log entry 8), Always like the rest D28, and the ignored bit [3] of Call and Exit D29 (log
entry 19). -/
def Obligations.JumpGroupDecodes : Prop :=
  ∀ i : Instruction,
    (∀ o k, i.opcode = jmpOpcode o k → classify i =
      (.jmp o k, if k = .imm then ⟨true, false, true, true⟩ else ⟨true, true, true, false⟩)) ∧
    (∀ k, i.opcode = callOpcode k → classify i = (.call i.imm, ⟨false, false, false, false⟩)) ∧
    (∀ k, i.opcode = exitOpcode k → classify i = (.exit, ⟨false, false, false, false⟩)) ∧
    (∀ n k, i.opcode = unnamedJmpOpcode n k → classify i = (.unrecognized .jmp, ⟨false, false, false, false⟩))

/-- R79, R81: the opcode bytes that decode to a fallback are the 40 that R81 lists, each in its group (field
values: decision D2, log entry 8). -/
def Obligations.FallbackBytesAreTheListedForty : Prop :=
  ∀ op : Byte,
    ((classify (buildOp op)).1 = .unrecognized .ls ↔
      op.toNat ∈ [0xE0, 0xE1, 0xE2, 0xE3, 0xE6, 0xE8, 0xE9, 0xEA, 0xEB, 0xEE,
        0xF0, 0xF1, 0xF2, 0xF3, 0xF6, 0xF8, 0xF9, 0xFA, 0xFB, 0xFE]) ∧
    ((classify (buildOp op)).1 = .unrecognized .alu ↔
      op.toNat ∈ [0xE4, 0xEC, 0xF4, 0xFC, 0xE7, 0xEF, 0xF7, 0xFF]) ∧
    ((classify (buildOp op)).1 = .unrecognized .jmp ↔
      op.toNat ∈ [0xA5, 0xAD, 0xB5, 0xBD, 0xC5, 0xCD, 0xD5, 0xDD, 0xE5, 0xED, 0xF5, 0xFD])

/-- R176, R160: the annotation set is a function of the opcode alone, and so is the variant, but that a Call carries its
own immediate. -/
def Obligations.ClassificationReadsTheOpcodeAlone : Prop :=
  ∀ i j : Instruction, i.opcode = j.opcode →
    (classify i).2 = (classify j).2 ∧
    ((classify i).1 = (classify j).1 ∨ ((classify i).1 = .call i.imm ∧ (classify j).1 = .call j.imm))

/-- R301: each of the four fallback outcomes, exactly where its cause stands, with its recorded value and its rendered
text. The codes are decision D21, the field values D2, the text D14 and D15 (log entries 8, 13). -/
def Obligations.FallbackOutcomesHaveTheirCauses : Prop :=
  ∀ (ht : HelperTable) (i : Instruction),
    (fallbackOf ht (classify i).1 = some .fbLsMode ↔
      (clsField i.opcode).toNat ∈ [0, 1, 2, 3, 6] ∧ modeField i.opcode = 7) ∧
    (fallbackOf ht (classify i).1 = some .fbAluOp ↔
      (clsField i.opcode).toNat ∈ [4, 7] ∧ 14 ≤ (aopField i.opcode).toNat) ∧
    (fallbackOf ht (classify i).1 = some .fbJmpOp ↔ clsField i.opcode = 5 ∧ 10 ≤ (aopField i.opcode).toNat) ∧
    (fallbackOf ht (classify i).1 = some .fbHelper ↔
      clsField i.opcode = 5 ∧ aopField i.opcode = 8 ∧ ht i.imm = none) ∧
    (∀ f, fallbackOf ht (classify i).1 = some f →
      (classify i).1 = (match f with
        | .fbLsMode => .unrecognized .ls
        | .fbAluOp => .unrecognized .alu
        | .fbJmpOp => .unrecognized .jmp
        | .fbHelper => .call i.imm) ∧
      describe ht i =
        if f = .fbHelper then "op: Call unknown function call: " ++ dec i.imm.toInt else "op: unrecognized opcode")

/-! ## Rendering -/

/-- R21, R22: the roles of the architectural registers and their displays, by value; a value above 10 has no role, and is
displayed all the same as `r` and its decimal value. That a register value is 8 bits wide is decision D5 (log entry 18),
that one above 10 is shown in full D25 (log entry 13). -/
def Obligations.RegisterRolesAndDisplays : Prop :=
  (∀ r : Reg,
    (regRole r = some .returnValue ↔ r = 0) ∧
    (regRole r = some .callArgument ↔ 1 ≤ r.toNat ∧ r.toNat ≤ 5) ∧
    (regRole r = some .calleeSaved ↔ 6 ≤ r.toNat ∧ r.toNat ≤ 9) ∧
    (regRole r = some .framePointer ↔ r = 10) ∧
    (regRole r = none ↔ 11 ≤ r.toNat)) ∧
  display 0 = "r0" ∧ display 1 = "r1" ∧ display 2 = "r2" ∧ display 3 = "r3" ∧ display 4 = "r4" ∧ display 5 = "r5" ∧
  display 6 = "r6" ∧ display 7 = "r7" ∧ display 8 = "r8" ∧ display 9 = "r9" ∧ display 10 = "rfp" ∧
  (∀ r : Reg, 11 ≤ r.toNat → display r = "r" ++ toString r.toNat)

/-- R200: `rfp` for register 10 and `r` with the full decimal value else, so that no two values are shown alike. That
the value is not truncated is decision D25 (log entry 13). -/
def Obligations.DisplayShowsTheFullRegisterValue : Prop :=
  (∀ r : Reg, display r = if r.toNat = 10 then "rfp" else "r" ++ toString r.toNat) ∧
  (∀ r r' : Reg, display r = display r' → r = r')

/-- R9: `dec(n)` of a natural number is its decimal digits with no leading zero, and of a negative one a `-` before those
of its absolute value (decision D13, log entry 13). -/
def Obligations.DecimalHasNoLeadingZero : Prop :=
  (∀ n : Nat, (dec n).toList = Nat.toDigits 10 n) ∧
  (∀ n : Nat, 0 < n → (dec n).toList.head? ≠ some '0' ∧ (dec n).toList.head? ≠ some '+') ∧
  dec 0 = "0" ∧
  (∀ n : Nat, 0 < n → dec (-(n : Int)) = "-" ++ dec n)

/-- R72 to R77 and R201: the value and the token of every named class, size, mode, source kind, ALU operation and jump
operation; a class or operation of which R201 gives no token has its value alone. The values are decision D2 (log entry 8),
the tokens D10 (log entry 13). -/
def Obligations.FieldValuesAndTokensAreTheTables : Prop :=
  [LSClass.ld, .ldX, .st, .stX, .ret].map (fun c => (c.code, tokClass c)) =
    [(0, "Ld"), (1, "LdX"), (2, "St"), (3, "StX"), (6, "Ret")] ∧
  [Width.w32, .w64].map (fun w => (w.code, tokWidth w)) = [(4, "32"), (7, "64")] ∧ jmpClassCode = 5 ∧
  [Size.w, .h, .b, .dw].map (fun z => (z.code, tokSize z)) = [(0, "W"), (1, "H"), (2, "B"), (3, "DW")] ∧
  [Mode.imm, .abs, .ind, .mem, .len, .msh, .xAdd].map (fun m => (m.code, tokMode m)) =
    [(0, "Imm"), (1, "Abs"), (2, "Ind"), (3, "Mem"), (4, "Len"), (5, "Msh"), (6, "XAdd")] ∧
  [SK.imm, .reg].map (fun k => (k.code, tokSK k)) = [(0, "Imm"), (1, "Reg")] ∧
  [AluOp.add, .sub, .mul, .div, .or, .and, .leftShift].map (fun o => (o.code, tokAlu o)) =
    [(0, "Add"), (1, "Sub"), (2, "Mul"), (3, "Div"), (4, "Or"), (5, "And"), (6, "LeftShift")] ∧
  [AluOp.rightShift, .negate, .mod, .xor, .move, .arithmeticRightShift].map (fun o => (o.code, tokAlu o)) =
    [(7, "RightShift"), (8, "Negate"), (9, "Mod"), (10, "Xor"), (11, "Move"), (12, "ArithmeticRightShift")] ∧
  endianCode = 13 ∧
  [JmpOp.always, .equal, .greaterThan, .greaterOrEqual, .bitTest, .notEqual, .signedGreaterThan, .signedGreaterOrEqual].map
      (fun o => (o.code, tokJmp o)) =
    [(0, "Always"), (1, "Equal"), (2, "GreaterThan"), (3, "GreaterOrEqual"), (4, "BitTest"), (5, "NotEqual"),
      (6, "SignedGreaterThan"), (7, "SignedGreaterOrEqual")] ∧
  callCode = 8 ∧ exitCode = 9

/-- R80: the map of the opcode byte to the mnemonic, row the high and column the low hex digit, its 256 entries as the
rule's table has them, each for every instruction with that opcode byte. The field values are decision D2 (log entry 8);
tokens, suffixes, their places and the fallback text D10, D11 and D14 (log entry 13); one mnemonic for both kinds of
`Endian`, `Call` and `Exit` D23 and D29, column 7 D24, the Return columns D30 (log entry 19). -/
def Obligations.OpcodeMapGivesTheMnemonics : Prop :=
  ∀ i : Instruction,
    ([["LdImmW", "LdXImmW", "StImmW", "StXImmW", "AddImm32", "AlwaysImm", "RetImmW", "AddImm64", "LdImmH", "LdXImmH",
      "StImmH", "StXImmH", "AddReg32", "AlwaysReg", "RetImmH", "AddReg64"],
    ["LdImmB", "LdXImmB", "StImmB", "StXImmB", "SubImm32", "EqualImm", "RetImmB", "SubImm64", "LdImmDW", "LdXImmDW",
      "StImmDW", "StXImmDW", "SubReg32", "EqualReg", "RetImmDW", "SubReg64"],
    ["LdAbsW", "LdXAbsW", "StAbsW", "StXAbsW", "MulImm32", "GreaterThanImm", "RetAbsW", "MulImm64", "LdAbsH",
      "LdXAbsH", "StAbsH", "StXAbsH", "MulReg32", "GreaterThanReg", "RetAbsH", "MulReg64"],
    ["LdAbsB", "LdXAbsB", "StAbsB", "StXAbsB", "DivImm32", "GreaterOrEqualImm", "RetAbsB", "DivImm64", "LdAbsDW",
      "LdXAbsDW", "StAbsDW", "StXAbsDW", "DivReg32", "GreaterOrEqualReg", "RetAbsDW", "DivReg64"],
    ["LdIndW", "LdXIndW", "StIndW", "StXIndW", "OrImm32", "BitTestImm", "RetIndW", "OrImm64", "LdIndH", "LdXIndH",
      "StIndH", "StXIndH", "OrReg32", "BitTestReg", "RetIndH", "OrReg64"],
    ["LdIndB", "LdXIndB", "StIndB", "StXIndB", "AndImm32", "NotEqualImm", "RetIndB", "AndImm64", "LdIndDW",
      "LdXIndDW", "StIndDW", "StXIndDW", "AndReg32", "NotEqualReg", "RetIndDW", "AndReg64"],
    ["LdMemW", "LdXMemW", "StMemW", "StXMemW", "LeftShiftImm32", "SignedGreaterThanImm", "RetMemW", "LeftShiftImm64",
      "LdMemH", "LdXMemH", "StMemH", "StXMemH", "LeftShiftReg32", "SignedGreaterThanReg", "RetMemH", "LeftShiftReg64"],
    ["LdMemB", "LdXMemB", "StMemB", "StXMemB", "RightShiftImm32", "SignedGreaterOrEqualImm", "RetMemB",
      "RightShiftImm64", "LdMemDW", "LdXMemDW", "StMemDW", "StXMemDW", "RightShiftReg32", "SignedGreaterOrEqualReg",
      "RetMemDW", "RightShiftReg64"],
    ["LdLenW", "LdXLenW", "StLenW", "StXLenW", "NegateImm32", "Call", "RetLenW", "NegateImm64", "LdLenH", "LdXLenH",
      "StLenH", "StXLenH", "NegateReg32", "Call", "RetLenH", "NegateReg64"],
    ["LdLenB", "LdXLenB", "StLenB", "StXLenB", "ModImm32", "Exit", "RetLenB", "ModImm64", "LdLenDW", "LdXLenDW",
      "StLenDW", "StXLenDW", "ModReg32", "Exit", "RetLenDW", "ModReg64"],
    ["LdMshW", "LdXMshW", "StMshW", "StXMshW", "XorImm32", "unrecognized opcode", "RetMshW", "XorImm64", "LdMshH",
      "LdXMshH", "StMshH", "StXMshH", "XorReg32", "unrecognized opcode", "RetMshH", "XorReg64"],
    ["LdMshB", "LdXMshB", "StMshB", "StXMshB", "MoveImm32", "unrecognized opcode", "RetMshB", "MoveImm64", "LdMshDW",
      "LdXMshDW", "StMshDW", "StXMshDW", "MoveReg32", "unrecognized opcode", "RetMshDW", "MoveReg64"],
    ["LdXAddW", "LdXXAddW", "StXAddW", "StXXAddW", "ArithmeticRightShiftImm32", "unrecognized opcode", "RetXAddW",
      "ArithmeticRightShiftImm64", "LdXAddH", "LdXXAddH", "StXAddH", "StXXAddH", "ArithmeticRightShiftReg32",
      "unrecognized opcode", "RetXAddH", "ArithmeticRightShiftReg64"],
    ["LdXAddB", "LdXXAddB", "StXAddB", "StXXAddB", "Endian", "unrecognized opcode", "RetXAddB", "Endian", "LdXAddDW",
      "LdXXAddDW", "StXAddDW", "StXXAddDW", "Endian", "unrecognized opcode", "RetXAddDW", "Endian"],
    ["unrecognized opcode", "unrecognized opcode", "unrecognized opcode", "unrecognized opcode",
      "unrecognized opcode", "unrecognized opcode", "unrecognized opcode", "unrecognized opcode",
      "unrecognized opcode", "unrecognized opcode", "unrecognized opcode", "unrecognized opcode",
      "unrecognized opcode", "unrecognized opcode", "unrecognized opcode", "unrecognized opcode"],
    ["unrecognized opcode", "unrecognized opcode", "unrecognized opcode", "unrecognized opcode",
      "unrecognized opcode", "unrecognized opcode", "unrecognized opcode", "unrecognized opcode",
      "unrecognized opcode", "unrecognized opcode", "unrecognized opcode", "unrecognized opcode",
      "unrecognized opcode", "unrecognized opcode", "unrecognized opcode", "unrecognized opcode"]] : List (List String))[i.opcode.toNat / 16]?.bind
      (fun row => row[i.opcode.toNat % 16]?) = some (opcodeMnemonic (classify i).1)

/-- R202, R209: the line of a load/store-group instruction, tokens with no separator, then its annotations in order.
The annotation sets are R165's, and the Return class is of this group by R162. The tokens are decision D10, the order D13,
the field values D2, the sets D12 and Return's place D30 (log entries 8, 13, 19). -/
def Obligations.LoadStoreLine : Prop :=
  ∀ (ht : HelperTable) (i : Instruction) (c : LSClass) (m : Mode) (z : Size), i.opcode = lsOpcode c m z →
    describe ht i = "op: " ++ tokClass c ++ tokMode m ++ tokSize z ++
      (if m = .abs ∨ m = .ind then " src: " ++ display i.src ++ " imm: " ++ dec i.imm.toInt
        else " dst: " ++ display i.dst ++ " src: " ++ display i.src ++ " off: " ++ dec i.off.toInt
          ++ " imm: " ++ dec i.imm.toInt)

/-- R203, R204, R209: the line of an ALU-group instruction, the width token last; of the endian swap, without suffixes.
Which annotations stand in it is R167's rule, and for the endian swap R168's. Tokens and their places are decisions D10 and
D11, the order D13, the field values D2; that the endian swap shows {dst, imm} in its four bytes is D12 and D23, that
class 7 is ALU-64 D24 (log entries 8, 13, 19). -/
def Obligations.AluLine : Prop :=
  ∀ (ht : HelperTable) (i : Instruction),
    (∀ w o, i.opcode = aluOpcode w o .imm → describe ht i =
      "op: " ++ tokAlu o ++ "Imm" ++ tokWidth w ++ " dst: " ++ display i.dst ++ " imm: " ++ dec i.imm.toInt) ∧
    (∀ w o, i.opcode = aluOpcode w o .reg → describe ht i =
      "op: " ++ tokAlu o ++ "Reg" ++ tokWidth w ++ " dst: " ++ display i.dst ++ " src: " ++ display i.src) ∧
    (∀ w k, i.opcode = endianOpcode w k → describe ht i =
      "op: Endian dst: " ++ display i.dst ++ " imm: " ++ dec i.imm.toInt)

/-- R205, R209: the line of a compare or control jump, with no width token. Which annotations stand in it is R170's rule,
dst and off with imm or src, for Always as for the rest (R171). Tokens and their places are decisions D10 and D11, the
order D13, the field values D2, Always like the rest D28 (log entries 8, 13, 19). -/
def Obligations.JumpLine : Prop :=
  ∀ (ht : HelperTable) (i : Instruction),
    (∀ o, i.opcode = jmpOpcode o .imm → describe ht i =
      "op: " ++ tokJmp o ++ "Imm" ++ " dst: " ++ display i.dst ++ " off: " ++ dec i.off.toInt
        ++ " imm: " ++ dec i.imm.toInt) ∧
    (∀ o, i.opcode = jmpOpcode o .reg → describe ht i =
      "op: " ++ tokJmp o ++ "Reg" ++ " dst: " ++ display i.dst ++ " src: " ++ display i.src
        ++ " off: " ++ dec i.off.toInt)

/-- R206, R172: a Call's line is its helper's name, or the fallback text with the signed decimal ID, and nothing of its
other fields; with this block's table, ID 1 is MapLookupElement (R12). The text around the name is decision D15, the opcode
bytes D2, the ignored bit [3] D29 (log entries 8, 13, 19). -/
def Obligations.CallLineNamesTheHelper : Prop :=
  (∀ (ht : HelperTable) (i : Instruction), i.opcode = 0x85 ∨ i.opcode = 0x8D →
    (∀ n, ht i.imm = some n → describe ht i = "op: Call " ++ n) ∧
    (ht i.imm = none → describe ht i = "op: Call unknown function call: " ++ dec i.imm.toInt)) ∧
  (∀ i : Instruction, i.opcode = 0x85 ∨ i.opcode = 0x8D → i.imm = 1 →
    describe Config.helperName i = "op: Call MapLookupElement")

/-- R173, R207: an Exit decodes to `exit` without annotations, and its line is exactly `op: Exit`, whatever its fields and
bit [3]. The opcode bytes are decision D2, the ignored bit [3] D29 (log entries 8, 19). -/
def Obligations.ExitLineIgnoresItsFields : Prop :=
  ∀ (ht : HelperTable) (i : Instruction), i.opcode = 0x95 ∨ i.opcode = 0x9D →
    classify i = (.exit, ⟨false, false, false, false⟩) ∧ mnem ht (classify i).1 = "Exit" ∧ describe ht i = "op: Exit"

/-- R210: the line of a descriptor holds no newline, where the helper table's names hold none. -/
def Obligations.DescribeIsASingleLine : Prop :=
  ∀ (ht : HelperTable) (i : Instruction), (∀ n, ht i.imm = some n → '\n' ∉ n.toList) →
    '\n' ∉ (describe ht i).toList

/-- R212: the text of the program listing: each instruction on its own line with its position, its continuations as
indented lines tagged by position and depth, instructions in program order. The text is decision D16 (log entry 13). -/
def Obligations.ListingRendersEveryInstruction : Prop :=
  ∀ ht : HelperTable, programListing ht [] = "" ∧
    (∀ (P : Program) (i : Instruction), programListing ht (append P i) =
      programListing ht P ++ (dec P.length ++ ": " ++ describe ht i ++ "\n"
        ++ String.join ((i.chain.tail.zipIdx 1).map fun ck =>
          String.ofList (List.replicate ck.2 '\t') ++ dec P.length ++ "." ++ dec ck.2 ++ ": " ++ describe ht ck.1 ++ "\n")))

/-! ## Encoding and decoding agree -/

/-- Every descriptor is one canonical instruction of the table, whose descriptor it is: of the 256 opcode bytes by R78 and
R79, of the two pseudo rows by R80, R111 and R112. That a descriptor of a two-record shape is that shape's own row and not
the row of byte 0x18, which is what `canonical` says, is the model's choice (log entries 10, 12). -/
def Obligations.EveryDescriptorIsAnInstruction : Prop :=
  (∀ x : Instruction, (ofInstruction x).toInstruction = x ∧ (ofInstruction x).canonical = true) ∧
  (∀ i j : Instr, i.canonical = true → j.canonical = true → i.toInstruction = j.toInstruction → i = j)

/-- Every well-formed instruction is decoded from its own wire bytes, in either byte order (R134, R136, R140). The
byte-level decoder is the model's (log entry 9). -/
def Obligations.DecodeInvertsEncode : Prop :=
  ∀ (wo : WireOrder) (i : Instr), i.wellFormed = true → decode wo (encode wo i) = .ok i

/-- Bytes that decode are the wire bytes of the instruction decoded, which is well-formed; and the bytes that do not are
those that are no records at all or no whole number of them (R50, R55; log entry 9). -/
def Obligations.EncodeInvertsDecode : Prop :=
  ∀ (wo : WireOrder) (bs : List Byte),
    (∀ i, decode wo bs = .ok i → encode wo i = bs ∧ i.wellFormed = true) ∧
    ((∃ i, decode wo bs = .ok i) ↔ bs ≠ [] ∧ bs.length % 8 = 0)

/-- Words written out from the spec's encodings decode to what they stand for (R78, R80, R111, R112; field values: log
entry 8; the byte-level decoder: log entry 9). -/
def Obligations.SpecWordsDecode : Prop :=
  decode .little [0x20, 0x10, 0, 0, 14, 0, 0, 0] = .ok (.ldAbsW ⟨0, 1, 0, 14, none⟩) ∧
  decode .little [0x61, 0x10, 4, 0, 0, 0, 0, 0] = .ok (.ldXMemW ⟨0, 1, 4, 0, none⟩) ∧
  decode .big [0x62, 0x0A, 0xFF, 0xFC, 0, 0, 0, 0] = .ok (.stMemW ⟨10, 0, 0xFFFC, 0, none⟩) ∧
  decode .little [0xDB, 0x21, 0, 0, 0, 0, 0, 0] = .ok (.stXXAddDW ⟨1, 2, 0, 0, none⟩) ∧
  decode .little [0x07, 0x03, 0, 0, 5, 0, 0, 0] = .ok (.addImm64 ⟨3, 0, 0, 5, none⟩) ∧
  decode .little [0xDC, 0x01, 0, 0, 16, 0, 0, 0] = .ok (.endian .w32 .reg ⟨1, 0, 0, 16, none⟩) ∧
  decode .little [0x6D, 0x21, 0x00, 0x80, 0, 0, 0, 0] = .ok (.signedGreaterThanReg ⟨1, 2, 0x8000, 0, none⟩) ∧
  decode .little [0x85, 0, 0, 0, 1, 0, 0, 0] = .ok (.call .imm ⟨0, 0, 0, 1, none⟩) ∧
  decode .little [0x95, 0x43, 0xFF, 0xFF, 9, 0, 0, 0] = .ok (.exit .imm ⟨3, 4, 0xFFFF, 9, none⟩) ∧
  decode .little [0xE7, 0, 0, 0, 0, 0, 0, 0] = .ok (.unrecognizedAlu .w64 0 .imm ⟨0, 0, 0, 0, none⟩) ∧
  decode .little [0x18, 0x01, 0, 0, 2, 0, 0, 0, 0, 0, 0, 0, 1, 0, 0, 0] = .ok (.loadImmediate64 1 0x100000002) ∧
  decode .little [0x18, 0x11, 0, 0, 7, 0, 0, 0, 0, 0, 0, 0, 0, 0, 0, 0] = .ok (.loadMapFd 1 7)

/-! ## Running the instructions

What a step leaves in the state is the model's own arrangement of the block's outputs (log entries 1, 16); what those
outputs are is the spec's, with its own decisions as the statements on decoding and rendering name them (log entries 8, 13,
17, 19). -/

/-- R164, R165, R202: every row of the load/store group runs to its end in every state. -/
def Obligations.LoadStoreRowsRun : Prop :=
  ∀ (c : LSClass) (m : Mode) (z : Size) (o : Operands) (s : State),
    exec (ofOpcode (lsOpcode c m z) o) s = .next (s.after (lsRow c m z o)
      ("op: " ++ tokClass c ++ tokMode m ++ tokSize z ++
        (if m = .abs ∨ m = .ind then " src: " ++ display o.src ++ " imm: " ++ dec o.imm.toInt
          else " dst: " ++ display o.dst ++ " src: " ++ display o.src ++ " off: " ++ dec o.off.toInt
            ++ " imm: " ++ dec o.imm.toInt))
      (.ls c m z (decide (m = .xAdd)))
      (if m = .abs ∨ m = .ind then ⟨false, true, false, true⟩ else ⟨true, true, true, true⟩) none)

/-- R167, R203: every ordinary ALU row runs to its end in every state, in both source kinds. -/
def Obligations.AluRowsRun : Prop :=
  ∀ (w : Width) (a : AluOp) (k : SK) (o : Operands) (s : State),
    exec (ofOpcode (aluOpcode w a k) o) s = .next (s.after (aluRow w a k o)
      ("op: " ++ tokAlu a ++ tokSK k ++ tokWidth w ++ " dst: " ++ display o.dst ++
        (if k = .imm then " imm: " ++ dec o.imm.toInt else " src: " ++ display o.src))
      (.alu w a k) (if k = .imm then ⟨true, false, false, true⟩ else ⟨true, true, false, false⟩) none)

/-- R168, R204: the endian swap runs to its end in every state, its four bytes alike in their line. -/
def Obligations.EndianRowsRun : Prop :=
  ∀ (w : Width) (k : SK) (o : Operands) (s : State),
    exec (.endian w k o) s = .next (s.after (endianRow w k o)
      ("op: Endian dst: " ++ display o.dst ++ " imm: " ++ dec o.imm.toInt)
      (.endian w k) ⟨true, false, false, true⟩ none)

/-- R170, R171, R205: every compare and control row runs to its end in every state. -/
def Obligations.JumpRowsRun : Prop :=
  ∀ (j : JmpOp) (k : SK) (o : Operands) (s : State),
    exec (ofOpcode (jmpOpcode j k) o) s = .next (s.after (jmpRow j k o)
      ("op: " ++ tokJmp j ++ tokSK k ++ " dst: " ++ display o.dst ++
        (if k = .imm then " off: " ++ dec o.off.toInt ++ " imm: " ++ dec o.imm.toInt
          else " src: " ++ display o.src ++ " off: " ++ dec o.off.toInt))
      (.jmp j k) (if k = .imm then ⟨true, false, true, true⟩ else ⟨true, true, true, false⟩) none)

/-- R172, R173, R206, R207: Call and Exit run to their end in every state; a Call to an ID without a name gives
FB_HELPER. -/
def Obligations.CallAndExitRun : Prop :=
  ∀ (k : SK) (o : Operands) (s : State),
    exec (.call k o) s = .next (s.after (callRow k o)
      (match Config.helperName o.imm with
        | some n => "op: Call " ++ n
        | none => "op: Call unknown function call: " ++ dec o.imm.toInt)
      (.call o.imm) ⟨false, false, false, false⟩
      (if Config.helperName o.imm = none then some .fbHelper else none)) ∧
    exec (.exit k o) s = .next (s.after (exitRow k o) "op: Exit" .exit ⟨false, false, false, false⟩ none)

/-- R81, R166, R169, R174, R175: the 40 fallback bytes run to their end in every state, each with its group's outcome. -/
def Obligations.FallbackRowsRun : Prop :=
  ∀ (o : Operands) (s : State),
    (∀ c z, exec (.unrecognizedLs c z o) s = .next (s.after (unnamedLsRow c z o) "op: unrecognized opcode"
      (.unrecognized .ls) ⟨false, false, false, false⟩ (some .fbLsMode))) ∧
    (∀ w n k, exec (.unrecognizedAlu w n k o) s = .next (s.after (unnamedAluRow w n k o) "op: unrecognized opcode"
      (.unrecognized .alu) ⟨false, false, false, false⟩ (some .fbAluOp))) ∧
    (∀ n k, exec (.unrecognizedJmp n k o) s = .next (s.after (unnamedJmpRow n k o) "op: unrecognized opcode"
      (.unrecognized .jmp) ⟨false, false, false, false⟩ (some .fbJmpOp)))

/-- R111, R112, R212: the two-record instructions run to their end in every state: two records, the line of the first
node, and the continuation's line below it in the listing. -/
def Obligations.TwoRecordInstructionsRun : Prop :=
  ∀ (dst : Reg) (s : State),
    (∀ imm64 : BitVec 64, exec (.loadImmediate64 dst imm64) s = .next (s.after
      (.linked ⟨0x18, dst, 0, 0, imm64.extractLsb' 0 32⟩ (.last ⟨0, 0, 0, 0, imm64.extractLsb' 32 32⟩))
      ("op: LdImmDW dst: " ++ display dst ++ " src: r0 off: 0 imm: " ++ dec (imm64.extractLsb' 0 32).toInt)
      (.ls .ld .imm .dw false) ⟨true, true, true, true⟩ none)) ∧
    (∀ fd : BitVec 32, exec (.loadMapFd dst fd) s = .next (s.after
      (.linked ⟨0x18, dst, 1, 0, fd⟩ (.last ⟨0, 0, 0, 0, 0⟩))
      ("op: LdImmDW dst: " ++ display dst ++ " src: r1 off: 0 imm: " ++ dec fd.toInt)
      (.ls .ld .imm .dw false) ⟨true, true, true, true⟩ none))

/-- R162 to R175 against the rows: every instruction of the table runs to its end in every state, and its meaning gives
what the decoder's algorithm and the encoder give for its descriptor. What the next state holds of it is the model's
arrangement (log entries 1, 16). -/
def Obligations.EveryRowAgreesWithTheDecoder : Prop :=
  ∀ (i : Instr) (s : State), exec i s = .next (s.after i.toInstruction
    (describe Config.helperName i.toInstruction) (classify i.toInstruction).1 (classify i.toInstruction).2
    (fallbackOf Config.helperName (classify i.toInstruction).1))

/-- R300: no instruction and no step ends in a fault or a refusal. -/
def Obligations.NothingStops : Prop :=
  (∀ (i : Instr) (s : State), ∃ t, exec i s = .next t) ∧ ∀ s : State, SafeStep s

/-- The frame of every instruction: only the stream bytes of its own records are stored, from
`8 × recIndex(P, len(P))` on (R28, R55); the program and the listing only grow at their ends (R27, R212); the calls not
taken yet stay (log entry 1). -/
def Obligations.ExecFrame : Prop :=
  ∀ (i : Instr) (s t : State), exec i s = .next t →
    t.input = s.input ∧
    t.program = s.program ++ [i.toInstruction] ∧
    (∃ l, t.listing = s.listing ++ l) ∧
    (∀ k, k < 8 * i.toInstruction.chain.length →
      t.stream.read (8 * recIndex s.program s.program.length + k) = (encode Config.wireOrder i)[k]?) ∧
    (∀ a, a < 8 * recIndex s.program s.program.length ∨
        8 * recIndex s.program s.program.length + 8 * i.toInstruction.chain.length ≤ a →
      t.stream.read a = s.stream.read a)

/-- R20, R59: what the block gives for an instruction does not depend on anything presented before. -/
def Obligations.OutputDependsOnTheInstructionAlone : Prop :=
  ∀ (i : Instr) (s s' t t' : State), exec i s = .next t → exec i s' = .next t' → t.output = t'.output

/-! ## Steps -/

/-- A step with a call presented runs, in the state without that call, the instruction of the table that the built
descriptor is; a canonical instruction's own descriptor is that instruction; and a table word put where the next step
takes its call runs the instruction it decodes to (log entries 3, 11). -/
def Obligations.StepRunsThePresentedInstruction : Prop :=
  (∀ (s : State) (c : BuilderCall) (rest : List BuilderCall), s.input = c :: rest →
    step s = exec (ofInstruction c.build) { s with input := rest }) ∧
  (∀ (s : State) (i : Instr) (rest : List BuilderCall), i.canonical = true → s.input = .given i.toInstruction :: rest →
    step s = exec i { s with input := rest }) ∧
  (∀ (s : State) (nbits w : Nat) (i : Instr), decodeTableWord nbits w = some i →
    step (s.withFetchWord nbits w) = exec i s)

/-- With nothing presented a step changes nothing. The model's own choice (log entry 2). -/
def Obligations.IdleStepChangesNothing : Prop :=
  ∀ s : State, s.input = [] → step s = .next s

/-- After reset no program, no record, no line and no output exist (the model's own values, log entry 4), and the state is
consistent. -/
def Obligations.ResetIsConsistent : Prop :=
  State.reset.program = [] ∧ State.reset.stream = [] ∧ State.reset.listing = "" ∧ State.reset.output = none ∧
  State.reset.input = [] ∧ State.reset.Consistent

/-- From every consistent state a step gives a consistent one: the stream is the encoding of the program (R55, R137), the
listing its listing (R212), the last output that of its last instruction (R160, R210), the stream in canonical form. -/
def Obligations.StepKeepsConsistency : Prop :=
  ∀ s t : State, s.Consistent → step s = .next t → t.Consistent

/-- The canonical form of the stream is kept by every step from every state (log entry 7). -/
def Obligations.StepKeepsStreamCanonical : Prop :=
  ∀ s t : State, s.stream.wf → step s = .next t → t.stream.wf

/-- R62, R26, R27: bytes produced earlier, and the instructions they came from, never change. -/
def Obligations.EarlierBytesNeverChange : Prop :=
  ∀ s t : State, s.Consistent → step s = .next t →
    (∀ a, a < (encodeProgram Config.wireOrder s.program).length →
      t.stream.read a = (encodeProgram Config.wireOrder s.program)[a]? ∧ t.stream.read a = s.stream.read a) ∧
    ∃ Q, t.program = s.program ++ Q

/-- Run over everything presented, a consistent machine ends with the program of the descriptors built, in order, their
encoding as its stream and their listing as its listing (R27, R137, R212; log entry 1). -/
def Obligations.RunEncodesAndListsTheWholeProgram : Prop :=
  ∀ (calls : List BuilderCall) (s : State), s.Consistent → s.input = calls →
    ∃ t, Sys2Proof.core.run calls.length s = .next t ∧ t.input = [] ∧
      t.program = s.program ++ calls.map BuilderCall.build ∧
      t.stream = cellsFrom 0 (encodeProgram Config.wireOrder (s.program ++ calls.map BuilderCall.build)) ∧
      t.listing = programListing Config.helperName (s.program ++ calls.map BuilderCall.build)
end

