-- ==== Sys2Proof/Laws/Wire.lean ====
section
/-! SUPPORT. Descriptors and chains, the register pair, and records: how many there are and what is read back from them.
-/

namespace Sys2Proof

/-! ## Descriptors -/

@[simp] theorem node_instructionOf (n : Node) (c : Option Instruction) : (instructionOf n c).node = n := by
  cases c <;> rfl

@[simp] theorem cont_instructionOf (n : Node) (c : Option Instruction) : (instructionOf n c).cont = c := by
  cases c <;> rfl

@[simp] theorem instructionOf_node_cont (i : Instruction) : instructionOf i.node i.cont = i := by
  cases i <;> rfl

@[simp] theorem opcode_withOpcode (op : Byte) (o : Operands) : (o.withOpcode op).opcode = op := by
  simp [Operands.withOpcode, Instruction.opcode]

@[simp] theorem imm_withOpcode (op : Byte) (o : Operands) : (o.withOpcode op).imm = o.imm := by
  simp [Operands.withOpcode, Instruction.imm]

@[simp] theorem operands_withOpcode (op : Byte) (o : Operands) : (o.withOpcode op).operands = o := by
  simp [Operands.withOpcode, Instruction.operands, Instruction.dst, Instruction.src, Instruction.off, Instruction.imm]

@[simp] theorem withOpcode_operands (x : Instruction) : x.operands.withOpcode x.opcode = x := by
  cases x <;> rfl

/-- A chain starts with its instruction (R24). -/
theorem chain_eq_cons (i : Instruction) : i.chain = i :: i.chain.tail := by
  cases i <;> rfl

theorem chain_ne_nil (i : Instruction) : i.chain ≠ [] := by
  cases i <;> simp [Instruction.chain]

theorem chain_length_pos (i : Instruction) : 0 < i.chain.length := List.length_pos_iff.2 (chain_ne_nil i)

/-! ## Programs -/

@[simp] theorem recIndex_length (P : Program) : recIndex P P.length = (P.map fun i => i.chain.length).sum := by
  simp [recIndex]

/-! ## Records -/

@[simp] theorem bytes_length (r : Record) : r.bytes.length = 8 := rfl

@[simp] theorem recordBytes_nil : recordBytes [] = [] := rfl

@[simp] theorem recordBytes_cons (r : Record) (rs : List Record) : recordBytes (r :: rs) = r.bytes ++ recordBytes rs :=
  rfl

@[simp] theorem recordBytes_length (rs : List Record) : (recordBytes rs).length = 8 * rs.length := by
  induction rs with
  | nil => rfl
  | cons r rs ih => simp [ih]; omega

@[simp] theorem encode_length (wo : WireOrder) (i : Instruction) : (i.encode wo).length = i.chain.length := by
  simp [Instruction.encode]

@[simp] theorem encodeProgram_append (wo : WireOrder) (P Q : Program) :
    encodeProgram wo (P ++ Q) = encodeProgram wo P ++ encodeProgram wo Q := by
  simp [encodeProgram]

@[simp] theorem encodeProgram_singleton (wo : WireOrder) (i : Instruction) :
    encodeProgram wo [i] = recordBytes (i.encode wo) := by
  simp [encodeProgram]

/-- The stream of a program ends at the byte offset of the position after its last instruction. -/
theorem encodeProgram_length_eq_byteOffset (wo : WireOrder) (P : Program) :
    (encodeProgram wo P).length = byteOffset P P.length := by
  induction P with
  | nil => rfl
  | cons i P ih =>
    rw [byteOffset, recIndex_length] at ih ⊢
    simp only [encodeProgram, List.flatMap_cons, List.length_append, recordBytes_length, encode_length, List.map_cons,
      List.sum_cons] at ih ⊢
    omega

/-! ## Reading fields back -/

@[simp] theorem deser16_ser16 (wo : WireOrder) (v : Off) : deser16 wo (ser16 wo v).1 (ser16 wo v).2 = v := by
  cases wo <;> (apply BitVec.eq_of_getLsbD_eq; intro i hi; simp [deser16, ser16]; grind)

@[simp] theorem deser32_ser32 (wo : WireOrder) (v : Imm) :
    deser32 wo (ser32 wo v).1 (ser32 wo v).2.1 (ser32 wo v).2.2.1 (ser32 wo v).2.2.2 = v := by
  cases wo <;> (apply BitVec.eq_of_getLsbD_eq; intro i hi; simp [deser32, ser32]; grind)

@[simp] theorem ser16_deser16 (wo : WireOrder) (b0 b1 : Byte) : ser16 wo (deser16 wo b0 b1) = (b0, b1) := by
  cases wo <;> simp only [ser16, deser16, Prod.mk.injEq] <;>
    constructor <;> (apply BitVec.eq_of_getLsbD_eq; intro i hi; simp; grind)

@[simp] theorem ser32_deser32 (wo : WireOrder) (b0 b1 b2 b3 : Byte) :
    ser32 wo (deser32 wo b0 b1 b2 b3) = (b0, b1, b2, b3) := by
  cases wo <;> simp only [ser32, deser32, Prod.mk.injEq] <;> refine ⟨?_, ?_, ?_, ?_⟩ <;>
    (apply BitVec.eq_of_getLsbD_eq; intro i hi; simp; grind)

/-- Bits of the packed register pair: the low nibble is the destination's, the high nibble the source's (R51). -/
theorem getLsbD_pack (d s : Reg) (i : Nat) (hi : i < 8) :
    (pack d s).getLsbD i = if i < 4 then d.getLsbD i else s.getLsbD (i - 4) := by
  have h15 : (0x0F#8).getLsbD i = decide (i < 4) := by
    interval_cases i <;> rfl
  simp only [pack, BitVec.getLsbD_or, BitVec.getLsbD_and, BitVec.getLsbD_shiftLeft]
  grind

end Sys2Proof
end

