-- ==== Sys2Proof/Laws/Decode.lean ====
section
/-! SUPPORT. The field tables against the field values, the fields of a composed opcode, what the decoder answers for each
form of row, and the cutting of bytes into records. -/

namespace Sys2Proof

/-! ## A field value is looked up as what it is the value of (R72 to R77) -/

@[simp] theorem classOf_ls (c : LSClass) : classOf c.code = .ls c := by cases c <;> rfl

@[simp] theorem classOf_alu (w : Width) : classOf w.code = .alu w := by cases w <;> rfl

@[simp] theorem classOf_jmp : classOf jmpClassCode = .jmp := rfl

@[simp] theorem sizeOfBits_code (z : Size) : sizeOfBits z.code = z := by cases z <;> rfl

@[simp] theorem modeOf_code (m : Mode) : modeOf m.code = some m := by cases m <;> rfl

@[simp] theorem modeOf_seven : modeOf 7#3 = none := rfl

@[simp] theorem skOf_code (k : SK) : skOf k.code = k := by cases k <;> rfl

@[simp] theorem aluEntryOf_code (o : AluOp) : aluEntryOf o.code = some (.op o) := by cases o <;> rfl

@[simp] theorem aluEntryOf_endian : aluEntryOf endianCode = some .endianSwap := rfl

@[simp] theorem aluEntryOf_unnamed (n : Fin 2) : aluEntryOf (BitVec.ofNat 4 (14 + n.val)) = none := by
  revert n; decide

@[simp] theorem jmpEntryOf_code (o : JmpOp) : jmpEntryOf o.code = some (.op o) := by cases o <;> rfl

@[simp] theorem jmpEntryOf_call : jmpEntryOf callCode = some .call := rfl

@[simp] theorem jmpEntryOf_exit : jmpEntryOf exitCode = some .exit := rfl

@[simp] theorem jmpEntryOf_unnamed (n : Fin 6) : jmpEntryOf (BitVec.ofNat 4 (10 + n.val)) = none := by
  revert n; decide

namespace Machine

/-! ## The fields of a composed opcode (R71, R78, R161) -/

@[simp] theorem clsField_lsCompose (m : BitVec 3) (z : BitVec 2) (c : BitVec 3) : clsField (lsCompose m z c) = c := by
  revert m z c; decide

@[simp] theorem sizeField_lsCompose (m : BitVec 3) (z : BitVec 2) (c : BitVec 3) : sizeField (lsCompose m z c) = z := by
  revert m z c; decide

@[simp] theorem modeField_lsCompose (m : BitVec 3) (z : BitVec 2) (c : BitVec 3) : modeField (lsCompose m z c) = m := by
  revert m z c; decide

@[simp] theorem clsField_opCompose (o : BitVec 4) (k : BitVec 1) (c : BitVec 3) : clsField (opCompose o k c) = c := by
  revert o k c; decide

@[simp] theorem skField_opCompose (o : BitVec 4) (k : BitVec 1) (c : BitVec 3) : skField (opCompose o k c) = k := by
  revert o k c; decide

@[simp] theorem aopField_opCompose (o : BitVec 4) (k : BitVec 1) (c : BitVec 3) : aopField (opCompose o k c) = o := by
  revert o k c; decide

/-! ## What the decoder answers for each form of row (R164 to R174) -/

theorem classify_lsRow (c : LSClass) (m : Mode) (z : Size) (o : Operands) :
    classify (lsRow c m z o) = (.ls c m z (decide (m = .xAdd)), annLS m) := by
  simp [classify, classifyLS, lsRow, lsOpcode]

theorem classify_aluRow (w : Width) (a : AluOp) (k : SK) (o : Operands) :
    classify (aluRow w a k o) = (.alu w a k, annAlu k) := by
  simp [classify, classifyAlu, aluRow, aluOpcode]

theorem classify_endianRow (w : Width) (k : SK) (o : Operands) :
    classify (endianRow w k o) = (.endian w k, annEndian) := by
  simp [classify, classifyAlu, endianRow, endianOpcode]

theorem classify_jmpRow (j : JmpOp) (k : SK) (o : Operands) : classify (jmpRow j k o) = (.jmp j k, annJmp k) := by
  simp [classify, classifyJmp, jmpRow, jmpOpcode]

theorem classify_callRow (k : SK) (o : Operands) : classify (callRow k o) = (.call o.imm, annNone) := by
  simp [classify, classifyJmp, callRow, callOpcode]

theorem classify_exitRow (k : SK) (o : Operands) : classify (exitRow k o) = (.exit, annNone) := by
  simp [classify, classifyJmp, exitRow, exitOpcode]

theorem classify_unnamedLsRow (c : LSClass) (z : Size) (o : Operands) :
    classify (unnamedLsRow c z o) = (.unrecognized .ls, annNone) := by
  simp [classify, classifyLS, unnamedLsRow, unnamedLsOpcode]

theorem classify_unnamedAluRow (w : Width) (n : Fin 2) (k : SK) (o : Operands) :
    classify (unnamedAluRow w n k o) = (.unrecognized .alu, annNone) := by
  simp [classify, classifyAlu, unnamedAluRow, unnamedAluOpcode]

theorem classify_unnamedJmpRow (n : Fin 6) (k : SK) (o : Operands) :
    classify (unnamedJmpRow n k o) = (.unrecognized .jmp, annNone) := by
  simp [classify, classifyJmp, unnamedJmpRow, unnamedJmpOpcode]

theorem classify_loadImmediate64 (dst : Reg) (imm64 : BitVec 64) :
    classify (buildLoadImmediate64 dst imm64) = (.ls .ld .imm .dw false, annLS .imm) :=
  classify_lsRow .ld .imm .dw
    ⟨dst, 0, 0, imm64.extractLsb' 0 32, some (continuation (imm64.extractLsb' 32 32))⟩

theorem classify_loadMapFd (dst : Reg) (fd : BitVec 32) :
    classify (buildLoadMapFd dst fd) = (.ls .ld .imm .dw false, annLS .imm) :=
  classify_lsRow .ld .imm .dw ⟨dst, 1, 0, fd, some (continuation 0)⟩

end Machine

/-! ## Descriptors of the table -/

/-- Only a descriptor of the 64-bit load opcode can be a two-record row. -/
theorem twoRecordRow_of_opcode_ne {x : Instruction} (h : x.opcode ≠ lddwOpcode) : twoRecordRow x = none := by
  match x with
  | .last _ => rfl
  | .linked _ (.linked _ _) => rfl
  | .linked n (.last m) => exact if_neg fun hc => h hc.1

/-- A descriptor of any other opcode is its opcode byte's row. -/
theorem ofInstruction_withOpcode {op : Byte} (o : Operands) (h : op ≠ lddwOpcode) :
    ofInstruction (o.withOpcode op) = ofOpcode op o := by
  rw [ofInstruction, twoRecordRow_of_opcode_ne (by simpa using h)]
  simp

/-- The two halves of a 64-bit immediate put together again (R85). -/
theorem assembleImm64_extract (v : BitVec 64) : assembleImm64 (v.extractLsb' 0 32) (v.extractLsb' 32 32) = v := by
  apply BitVec.eq_of_getLsbD_eq
  intro i hi
  simp [assembleImm64]
  grind

/-! ## Bytes into records -/

/-- Records laid back to back are cut apart as they were. -/
theorem recordsOfBytes_recordBytes (rs : List Record) : recordsOfBytes (recordBytes rs) = .ok rs := by
  induction rs with
  | nil => rfl
  | cons r rs ih =>
    simp only [recordBytes_cons, Record.bytes, List.cons_append, List.nil_append, recordsOfBytes, ih]

/-- Bytes that are cut into records are those records laid back to back. -/
theorem recordBytes_of_recordsOfBytes {bs : List Byte} {rs : List Record} (h : recordsOfBytes bs = .ok rs) :
    recordBytes rs = bs := by
  induction bs using recordsOfBytes.induct generalizing rs with
  | case1 =>
    cases h
    rfl
  | case2 b0 b1 b2 b3 b4 b5 b6 b7 rest ss hss ih =>
    simp only [recordsOfBytes, hss, Except.ok.injEq] at h
    subst h
    simp [Record.bytes, ih hss]
  | case3 b0 b1 b2 b3 b4 b5 b6 b7 rest e hss ih => simp [recordsOfBytes, hss] at h
  | case4 bs h1 h2 => simp [recordsOfBytes] at h

end Sys2Proof
end

