-- ==== Sys2Proof/Laws/Memory.lean ====
section
/-! SUPPORT. The record stream as memory: reads after writes, and the canonical form that every operation keeps. -/

namespace Sys2Proof.Machine

theorem Memory.read_write_same (m : Memory) (a : Nat) (b : Byte) : (m.write a b).read a = some b := by
  induction m with
  | nil => simp [Memory.write, Memory.read]
  | cons c m ih =>
    obtain ⟨k, v⟩ := c
    simp only [Memory.write]
    split
    · simp [Memory.read]
    · split
      · simp [Memory.read]
      · rename_i h1 h2
        simp [Memory.read, Ne.symm h2, ih]

theorem Memory.read_write_other (m : Memory) {a x : Nat} (b : Byte) (h : x ≠ a) :
    (m.write a b).read x = m.read x := by
  induction m with
  | nil => simp [Memory.write, Memory.read, h.symm]
  | cons c m ih =>
    obtain ⟨k, v⟩ := c
    simp only [Memory.write]
    split
    · simp [Memory.read, h.symm]
    · split
      · rename_i h2
        simp [Memory.read, h.symm, ← h2]
      · simp [Memory.read, ih]

/-- Storing a byte puts no new address into the stream but the one stored to. -/
theorem Memory.mem_write {m : Memory} {a : Nat} {b : Byte} {c : Host.Cell} (h : c ∈ m.write a b) :
    c = (a, b) ∨ c ∈ m := by
  induction m with
  | nil => simpa [Memory.write] using h
  | cons d m ih =>
    obtain ⟨k, v⟩ := d
    simp only [Memory.write] at h
    split at h
    · simpa using h
    · split at h
      · rcases List.mem_cons.1 h with h | h
        · exact .inl h
        · exact .inr (List.mem_cons_of_mem _ h)
      · rcases List.mem_cons.1 h with h | h
        · exact .inr (by simp [h])
        · exact (ih h).imp_right (List.mem_cons_of_mem _)

theorem Memory.write_wf {m : Memory} (a : Nat) (b : Byte) (h : m.wf) : (m.write a b).wf := by
  induction m with
  | nil => simp [Memory.write, Memory.wf]
  | cons d m ih =>
    obtain ⟨k, v⟩ := d
    obtain ⟨hk, hm⟩ := List.pairwise_cons.1 h
    simp only [Memory.write]
    split
    · rename_i hlt
      refine List.pairwise_cons.2 ⟨?_, h⟩
      intro c hc
      rcases List.mem_cons.1 hc with rfl | hc
      · exact hlt
      · exact hlt.trans (hk c hc)
    · split
      · rename_i heq
        subst heq
        exact List.pairwise_cons.2 ⟨hk, hm⟩
      · rename_i h1 h2
        refine List.pairwise_cons.2 ⟨?_, ih hm⟩
        intro c hc
        rcases Memory.mem_write hc with rfl | hc
        · exact lt_of_le_of_ne (not_lt.1 h1) (Ne.symm h2)
        · exact hk c hc

theorem Memory.writeBytes_wf {m : Memory} (a : Nat) (bs : List Byte) (h : m.wf) : (m.writeBytes a bs).wf := by
  induction bs generalizing m a with
  | nil => exact h
  | cons b bs ih => exact ih _ (Memory.write_wf a b h)

theorem Memory.read_writeBytes_outside (m : Memory) {a x : Nat} (bs : List Byte) (h : x < a ∨ a + bs.length ≤ x) :
    (m.writeBytes a bs).read x = m.read x := by
  induction bs generalizing m a with
  | nil => rfl
  | cons b bs ih =>
    simp only [List.length_cons] at h
    rw [Memory.writeBytes, ih _ (by omega), Memory.read_write_other _ _ (by omega)]

theorem Memory.read_writeBytes_inside (m : Memory) (a : Nat) (bs : List Byte) {k : Nat} (h : k < bs.length) :
    (m.writeBytes a bs).read (a + k) = bs[k]? := by
  induction bs generalizing m a k with
  | nil => simp at h
  | cons b bs ih =>
    rw [Memory.writeBytes]
    cases k with
    | zero =>
      rw [Memory.read_writeBytes_outside _ _ (by omega)]
      simp [Memory.read_write_same]
    | succ k =>
      have hk : k < bs.length := by simpa using h
      have := ih (m.write a b) (a + 1) hk
      rw [show a + (k + 1) = a + 1 + k by omega, this]
      simp

/-- Cells listed from `a` on stand at `a` or above. -/
theorem le_of_mem_cellsFrom {a : Nat} {bs : List Byte} {c : Host.Cell} (h : c ∈ cellsFrom a bs) : a ≤ c.1 := by
  induction bs generalizing a with
  | nil => simp [cellsFrom] at h
  | cons b bs ih =>
    rcases List.mem_cons.1 h with rfl | h
    · exact le_refl _
    · exact (Nat.le_succ a).trans (ih h)

theorem cellsFrom_wf (a : Nat) (bs : List Byte) : Memory.wf (cellsFrom a bs) := by
  induction bs generalizing a with
  | nil => simp [cellsFrom, Memory.wf]
  | cons b bs ih => exact List.pairwise_cons.2 ⟨fun _ hc => Nat.lt_of_succ_le (le_of_mem_cellsFrom hc), ih (a + 1)⟩

/-- One byte stored just past the end of a run of cells lengthens the run. -/
theorem write_cellsFrom_end (a : Nat) (bs : List Byte) (b : Byte) :
    Memory.write (cellsFrom a bs) (a + bs.length) b = cellsFrom a (bs ++ [b]) := by
  induction bs generalizing a with
  | nil => rfl
  | cons c bs ih =>
    have h1 : ¬ a + (bs.length + 1) < a := by omega
    have h2 : ¬ a = a + (bs.length + 1) := by omega
    simp only [cellsFrom, List.length_cons, Memory.write, if_neg h1, if_neg (Ne.symm h2), List.cons_append]
    rw [show a + (bs.length + 1) = a + 1 + bs.length by omega, ih]

/-- Bytes stored just past the end of a run of cells lengthen the run. -/
theorem writeBytes_cellsFrom_end (a : Nat) (bs cs : List Byte) :
    Memory.writeBytes (cellsFrom a bs) (a + bs.length) cs = cellsFrom a (bs ++ cs) := by
  induction cs generalizing bs with
  | nil => simp [Memory.writeBytes]
  | cons c cs ih =>
    rw [Memory.writeBytes, write_cellsFrom_end]
    have := ih (bs ++ [c])
    simpa [Nat.add_assoc] using this

theorem read_cellsFrom (a : Nat) (bs : List Byte) (k : Nat) : Memory.read (cellsFrom a bs) (a + k) = bs[k]? := by
  induction bs generalizing a k with
  | nil => simp [cellsFrom, Memory.read]
  | cons b bs ih =>
    cases k with
    | zero => simp [cellsFrom, Memory.read]
    | succ k =>
      have := ih (a + 1) k
      rw [show a + 1 + k = a + (k + 1) by omega] at this
      simp [cellsFrom, Memory.read, this]

end Sys2Proof.Machine
end

