-- ==== Sys2Proof/Laws/PerInstr.lean ====
section
/-! SUPPORT. For each instruction of the table: written as its descriptor and read back from it, a canonical instruction
is itself again (30_encoding.md R78 against the opcode map of R80). -/

namespace Sys2Proof.Laws.RowRoundTrip

def Statement (i : Instr) : Prop := i.canonical = true → ofInstruction i.toInstruction = i

/-- The case of a row of one opcode byte other than the 64-bit load's. -/
theorem row {i : Instr} (op : Byte) (o : Operands) (h : op ≠ lddwOpcode) (hd : i.toInstruction = o.withOpcode op)
    (hi : ofOpcode op o = i) : Statement i := by
  intro _
  rw [hd, ofInstruction_withOpcode o h, hi]

theorem ldImmW (o : Operands) : Statement (.ldImmW o) := row (lsOpcode .ld .imm .w) o (by decide) rfl rfl

theorem ldImmH (o : Operands) : Statement (.ldImmH o) := row (lsOpcode .ld .imm .h) o (by decide) rfl rfl

theorem ldImmB (o : Operands) : Statement (.ldImmB o) := row (lsOpcode .ld .imm .b) o (by decide) rfl rfl

theorem ldImmDW (o : Operands) : Statement (.ldImmDW o) := by
  intro hc
  have hd : (Instr.ldImmDW o).toInstruction = o.withOpcode lddwOpcode := rfl
  cases h : twoRecordRow (Instr.ldImmDW o).toInstruction with
  | none =>
    rw [ofInstruction, h, hd]
    simp only [opcode_withOpcode, operands_withOpcode]
    rfl
  | some j =>
    simp only [Instr.canonical, h, decide_eq_true_eq] at hc
    rw [ofInstruction, h, hc]

theorem ldAbsW (o : Operands) : Statement (.ldAbsW o) := row (lsOpcode .ld .abs .w) o (by decide) rfl rfl

theorem ldAbsH (o : Operands) : Statement (.ldAbsH o) := row (lsOpcode .ld .abs .h) o (by decide) rfl rfl

theorem ldAbsB (o : Operands) : Statement (.ldAbsB o) := row (lsOpcode .ld .abs .b) o (by decide) rfl rfl

theorem ldAbsDW (o : Operands) : Statement (.ldAbsDW o) := row (lsOpcode .ld .abs .dw) o (by decide) rfl rfl

theorem ldIndW (o : Operands) : Statement (.ldIndW o) := row (lsOpcode .ld .ind .w) o (by decide) rfl rfl

theorem ldIndH (o : Operands) : Statement (.ldIndH o) := row (lsOpcode .ld .ind .h) o (by decide) rfl rfl

theorem ldIndB (o : Operands) : Statement (.ldIndB o) := row (lsOpcode .ld .ind .b) o (by decide) rfl rfl

theorem ldIndDW (o : Operands) : Statement (.ldIndDW o) := row (lsOpcode .ld .ind .dw) o (by decide) rfl rfl

theorem ldMemW (o : Operands) : Statement (.ldMemW o) := row (lsOpcode .ld .mem .w) o (by decide) rfl rfl

theorem ldMemH (o : Operands) : Statement (.ldMemH o) := row (lsOpcode .ld .mem .h) o (by decide) rfl rfl

theorem ldMemB (o : Operands) : Statement (.ldMemB o) := row (lsOpcode .ld .mem .b) o (by decide) rfl rfl

theorem ldMemDW (o : Operands) : Statement (.ldMemDW o) := row (lsOpcode .ld .mem .dw) o (by decide) rfl rfl

theorem ldLenW (o : Operands) : Statement (.ldLenW o) := row (lsOpcode .ld .len .w) o (by decide) rfl rfl

theorem ldLenH (o : Operands) : Statement (.ldLenH o) := row (lsOpcode .ld .len .h) o (by decide) rfl rfl

theorem ldLenB (o : Operands) : Statement (.ldLenB o) := row (lsOpcode .ld .len .b) o (by decide) rfl rfl

theorem ldLenDW (o : Operands) : Statement (.ldLenDW o) := row (lsOpcode .ld .len .dw) o (by decide) rfl rfl

theorem ldMshW (o : Operands) : Statement (.ldMshW o) := row (lsOpcode .ld .msh .w) o (by decide) rfl rfl

theorem ldMshH (o : Operands) : Statement (.ldMshH o) := row (lsOpcode .ld .msh .h) o (by decide) rfl rfl

theorem ldMshB (o : Operands) : Statement (.ldMshB o) := row (lsOpcode .ld .msh .b) o (by decide) rfl rfl

theorem ldMshDW (o : Operands) : Statement (.ldMshDW o) := row (lsOpcode .ld .msh .dw) o (by decide) rfl rfl

theorem ldXAddW (o : Operands) : Statement (.ldXAddW o) := row (lsOpcode .ld .xAdd .w) o (by decide) rfl rfl

theorem ldXAddH (o : Operands) : Statement (.ldXAddH o) := row (lsOpcode .ld .xAdd .h) o (by decide) rfl rfl

theorem ldXAddB (o : Operands) : Statement (.ldXAddB o) := row (lsOpcode .ld .xAdd .b) o (by decide) rfl rfl

theorem ldXAddDW (o : Operands) : Statement (.ldXAddDW o) := row (lsOpcode .ld .xAdd .dw) o (by decide) rfl rfl

theorem ldXImmW (o : Operands) : Statement (.ldXImmW o) := row (lsOpcode .ldX .imm .w) o (by decide) rfl rfl

theorem ldXImmH (o : Operands) : Statement (.ldXImmH o) := row (lsOpcode .ldX .imm .h) o (by decide) rfl rfl

theorem ldXImmB (o : Operands) : Statement (.ldXImmB o) := row (lsOpcode .ldX .imm .b) o (by decide) rfl rfl

theorem ldXImmDW (o : Operands) : Statement (.ldXImmDW o) := row (lsOpcode .ldX .imm .dw) o (by decide) rfl rfl

theorem ldXAbsW (o : Operands) : Statement (.ldXAbsW o) := row (lsOpcode .ldX .abs .w) o (by decide) rfl rfl

theorem ldXAbsH (o : Operands) : Statement (.ldXAbsH o) := row (lsOpcode .ldX .abs .h) o (by decide) rfl rfl

theorem ldXAbsB (o : Operands) : Statement (.ldXAbsB o) := row (lsOpcode .ldX .abs .b) o (by decide) rfl rfl

theorem ldXAbsDW (o : Operands) : Statement (.ldXAbsDW o) := row (lsOpcode .ldX .abs .dw) o (by decide) rfl rfl

theorem ldXIndW (o : Operands) : Statement (.ldXIndW o) := row (lsOpcode .ldX .ind .w) o (by decide) rfl rfl

theorem ldXIndH (o : Operands) : Statement (.ldXIndH o) := row (lsOpcode .ldX .ind .h) o (by decide) rfl rfl

theorem ldXIndB (o : Operands) : Statement (.ldXIndB o) := row (lsOpcode .ldX .ind .b) o (by decide) rfl rfl

theorem ldXIndDW (o : Operands) : Statement (.ldXIndDW o) := row (lsOpcode .ldX .ind .dw) o (by decide) rfl rfl

theorem ldXMemW (o : Operands) : Statement (.ldXMemW o) := row (lsOpcode .ldX .mem .w) o (by decide) rfl rfl

theorem ldXMemH (o : Operands) : Statement (.ldXMemH o) := row (lsOpcode .ldX .mem .h) o (by decide) rfl rfl

theorem ldXMemB (o : Operands) : Statement (.ldXMemB o) := row (lsOpcode .ldX .mem .b) o (by decide) rfl rfl

theorem ldXMemDW (o : Operands) : Statement (.ldXMemDW o) := row (lsOpcode .ldX .mem .dw) o (by decide) rfl rfl

theorem ldXLenW (o : Operands) : Statement (.ldXLenW o) := row (lsOpcode .ldX .len .w) o (by decide) rfl rfl

theorem ldXLenH (o : Operands) : Statement (.ldXLenH o) := row (lsOpcode .ldX .len .h) o (by decide) rfl rfl

theorem ldXLenB (o : Operands) : Statement (.ldXLenB o) := row (lsOpcode .ldX .len .b) o (by decide) rfl rfl

theorem ldXLenDW (o : Operands) : Statement (.ldXLenDW o) := row (lsOpcode .ldX .len .dw) o (by decide) rfl rfl

theorem ldXMshW (o : Operands) : Statement (.ldXMshW o) := row (lsOpcode .ldX .msh .w) o (by decide) rfl rfl

theorem ldXMshH (o : Operands) : Statement (.ldXMshH o) := row (lsOpcode .ldX .msh .h) o (by decide) rfl rfl

theorem ldXMshB (o : Operands) : Statement (.ldXMshB o) := row (lsOpcode .ldX .msh .b) o (by decide) rfl rfl

theorem ldXMshDW (o : Operands) : Statement (.ldXMshDW o) := row (lsOpcode .ldX .msh .dw) o (by decide) rfl rfl

theorem ldXXAddW (o : Operands) : Statement (.ldXXAddW o) := row (lsOpcode .ldX .xAdd .w) o (by decide) rfl rfl

theorem ldXXAddH (o : Operands) : Statement (.ldXXAddH o) := row (lsOpcode .ldX .xAdd .h) o (by decide) rfl rfl

theorem ldXXAddB (o : Operands) : Statement (.ldXXAddB o) := row (lsOpcode .ldX .xAdd .b) o (by decide) rfl rfl

theorem ldXXAddDW (o : Operands) : Statement (.ldXXAddDW o) := row (lsOpcode .ldX .xAdd .dw) o (by decide) rfl rfl

theorem stImmW (o : Operands) : Statement (.stImmW o) := row (lsOpcode .st .imm .w) o (by decide) rfl rfl

theorem stImmH (o : Operands) : Statement (.stImmH o) := row (lsOpcode .st .imm .h) o (by decide) rfl rfl

theorem stImmB (o : Operands) : Statement (.stImmB o) := row (lsOpcode .st .imm .b) o (by decide) rfl rfl

theorem stImmDW (o : Operands) : Statement (.stImmDW o) := row (lsOpcode .st .imm .dw) o (by decide) rfl rfl

theorem stAbsW (o : Operands) : Statement (.stAbsW o) := row (lsOpcode .st .abs .w) o (by decide) rfl rfl

theorem stAbsH (o : Operands) : Statement (.stAbsH o) := row (lsOpcode .st .abs .h) o (by decide) rfl rfl

theorem stAbsB (o : Operands) : Statement (.stAbsB o) := row (lsOpcode .st .abs .b) o (by decide) rfl rfl

theorem stAbsDW (o : Operands) : Statement (.stAbsDW o) := row (lsOpcode .st .abs .dw) o (by decide) rfl rfl

theorem stIndW (o : Operands) : Statement (.stIndW o) := row (lsOpcode .st .ind .w) o (by decide) rfl rfl

theorem stIndH (o : Operands) : Statement (.stIndH o) := row (lsOpcode .st .ind .h) o (by decide) rfl rfl

theorem stIndB (o : Operands) : Statement (.stIndB o) := row (lsOpcode .st .ind .b) o (by decide) rfl rfl

theorem stIndDW (o : Operands) : Statement (.stIndDW o) := row (lsOpcode .st .ind .dw) o (by decide) rfl rfl

theorem stMemW (o : Operands) : Statement (.stMemW o) := row (lsOpcode .st .mem .w) o (by decide) rfl rfl

theorem stMemH (o : Operands) : Statement (.stMemH o) := row (lsOpcode .st .mem .h) o (by decide) rfl rfl

theorem stMemB (o : Operands) : Statement (.stMemB o) := row (lsOpcode .st .mem .b) o (by decide) rfl rfl

theorem stMemDW (o : Operands) : Statement (.stMemDW o) := row (lsOpcode .st .mem .dw) o (by decide) rfl rfl

theorem stLenW (o : Operands) : Statement (.stLenW o) := row (lsOpcode .st .len .w) o (by decide) rfl rfl

theorem stLenH (o : Operands) : Statement (.stLenH o) := row (lsOpcode .st .len .h) o (by decide) rfl rfl

theorem stLenB (o : Operands) : Statement (.stLenB o) := row (lsOpcode .st .len .b) o (by decide) rfl rfl

theorem stLenDW (o : Operands) : Statement (.stLenDW o) := row (lsOpcode .st .len .dw) o (by decide) rfl rfl

theorem stMshW (o : Operands) : Statement (.stMshW o) := row (lsOpcode .st .msh .w) o (by decide) rfl rfl

theorem stMshH (o : Operands) : Statement (.stMshH o) := row (lsOpcode .st .msh .h) o (by decide) rfl rfl

theorem stMshB (o : Operands) : Statement (.stMshB o) := row (lsOpcode .st .msh .b) o (by decide) rfl rfl

theorem stMshDW (o : Operands) : Statement (.stMshDW o) := row (lsOpcode .st .msh .dw) o (by decide) rfl rfl

theorem stXAddW (o : Operands) : Statement (.stXAddW o) := row (lsOpcode .st .xAdd .w) o (by decide) rfl rfl

theorem stXAddH (o : Operands) : Statement (.stXAddH o) := row (lsOpcode .st .xAdd .h) o (by decide) rfl rfl

theorem stXAddB (o : Operands) : Statement (.stXAddB o) := row (lsOpcode .st .xAdd .b) o (by decide) rfl rfl

theorem stXAddDW (o : Operands) : Statement (.stXAddDW o) := row (lsOpcode .st .xAdd .dw) o (by decide) rfl rfl

theorem stXImmW (o : Operands) : Statement (.stXImmW o) := row (lsOpcode .stX .imm .w) o (by decide) rfl rfl

theorem stXImmH (o : Operands) : Statement (.stXImmH o) := row (lsOpcode .stX .imm .h) o (by decide) rfl rfl

theorem stXImmB (o : Operands) : Statement (.stXImmB o) := row (lsOpcode .stX .imm .b) o (by decide) rfl rfl

theorem stXImmDW (o : Operands) : Statement (.stXImmDW o) := row (lsOpcode .stX .imm .dw) o (by decide) rfl rfl

theorem stXAbsW (o : Operands) : Statement (.stXAbsW o) := row (lsOpcode .stX .abs .w) o (by decide) rfl rfl

theorem stXAbsH (o : Operands) : Statement (.stXAbsH o) := row (lsOpcode .stX .abs .h) o (by decide) rfl rfl

theorem stXAbsB (o : Operands) : Statement (.stXAbsB o) := row (lsOpcode .stX .abs .b) o (by decide) rfl rfl

theorem stXAbsDW (o : Operands) : Statement (.stXAbsDW o) := row (lsOpcode .stX .abs .dw) o (by decide) rfl rfl

theorem stXIndW (o : Operands) : Statement (.stXIndW o) := row (lsOpcode .stX .ind .w) o (by decide) rfl rfl

theorem stXIndH (o : Operands) : Statement (.stXIndH o) := row (lsOpcode .stX .ind .h) o (by decide) rfl rfl

theorem stXIndB (o : Operands) : Statement (.stXIndB o) := row (lsOpcode .stX .ind .b) o (by decide) rfl rfl

theorem stXIndDW (o : Operands) : Statement (.stXIndDW o) := row (lsOpcode .stX .ind .dw) o (by decide) rfl rfl

theorem stXMemW (o : Operands) : Statement (.stXMemW o) := row (lsOpcode .stX .mem .w) o (by decide) rfl rfl

theorem stXMemH (o : Operands) : Statement (.stXMemH o) := row (lsOpcode .stX .mem .h) o (by decide) rfl rfl

theorem stXMemB (o : Operands) : Statement (.stXMemB o) := row (lsOpcode .stX .mem .b) o (by decide) rfl rfl

theorem stXMemDW (o : Operands) : Statement (.stXMemDW o) := row (lsOpcode .stX .mem .dw) o (by decide) rfl rfl

theorem stXLenW (o : Operands) : Statement (.stXLenW o) := row (lsOpcode .stX .len .w) o (by decide) rfl rfl

theorem stXLenH (o : Operands) : Statement (.stXLenH o) := row (lsOpcode .stX .len .h) o (by decide) rfl rfl

theorem stXLenB (o : Operands) : Statement (.stXLenB o) := row (lsOpcode .stX .len .b) o (by decide) rfl rfl

theorem stXLenDW (o : Operands) : Statement (.stXLenDW o) := row (lsOpcode .stX .len .dw) o (by decide) rfl rfl

theorem stXMshW (o : Operands) : Statement (.stXMshW o) := row (lsOpcode .stX .msh .w) o (by decide) rfl rfl

theorem stXMshH (o : Operands) : Statement (.stXMshH o) := row (lsOpcode .stX .msh .h) o (by decide) rfl rfl

theorem stXMshB (o : Operands) : Statement (.stXMshB o) := row (lsOpcode .stX .msh .b) o (by decide) rfl rfl

theorem stXMshDW (o : Operands) : Statement (.stXMshDW o) := row (lsOpcode .stX .msh .dw) o (by decide) rfl rfl

theorem stXXAddW (o : Operands) : Statement (.stXXAddW o) := row (lsOpcode .stX .xAdd .w) o (by decide) rfl rfl

theorem stXXAddH (o : Operands) : Statement (.stXXAddH o) := row (lsOpcode .stX .xAdd .h) o (by decide) rfl rfl

theorem stXXAddB (o : Operands) : Statement (.stXXAddB o) := row (lsOpcode .stX .xAdd .b) o (by decide) rfl rfl

theorem stXXAddDW (o : Operands) : Statement (.stXXAddDW o) := row (lsOpcode .stX .xAdd .dw) o (by decide) rfl rfl

theorem retImmW (o : Operands) : Statement (.retImmW o) := row (lsOpcode .ret .imm .w) o (by decide) rfl rfl

theorem retImmH (o : Operands) : Statement (.retImmH o) := row (lsOpcode .ret .imm .h) o (by decide) rfl rfl

theorem retImmB (o : Operands) : Statement (.retImmB o) := row (lsOpcode .ret .imm .b) o (by decide) rfl rfl

theorem retImmDW (o : Operands) : Statement (.retImmDW o) := row (lsOpcode .ret .imm .dw) o (by decide) rfl rfl

theorem retAbsW (o : Operands) : Statement (.retAbsW o) := row (lsOpcode .ret .abs .w) o (by decide) rfl rfl

theorem retAbsH (o : Operands) : Statement (.retAbsH o) := row (lsOpcode .ret .abs .h) o (by decide) rfl rfl

theorem retAbsB (o : Operands) : Statement (.retAbsB o) := row (lsOpcode .ret .abs .b) o (by decide) rfl rfl

theorem retAbsDW (o : Operands) : Statement (.retAbsDW o) := row (lsOpcode .ret .abs .dw) o (by decide) rfl rfl

theorem retIndW (o : Operands) : Statement (.retIndW o) := row (lsOpcode .ret .ind .w) o (by decide) rfl rfl

theorem retIndH (o : Operands) : Statement (.retIndH o) := row (lsOpcode .ret .ind .h) o (by decide) rfl rfl

theorem retIndB (o : Operands) : Statement (.retIndB o) := row (lsOpcode .ret .ind .b) o (by decide) rfl rfl

theorem retIndDW (o : Operands) : Statement (.retIndDW o) := row (lsOpcode .ret .ind .dw) o (by decide) rfl rfl

theorem retMemW (o : Operands) : Statement (.retMemW o) := row (lsOpcode .ret .mem .w) o (by decide) rfl rfl

theorem retMemH (o : Operands) : Statement (.retMemH o) := row (lsOpcode .ret .mem .h) o (by decide) rfl rfl

theorem retMemB (o : Operands) : Statement (.retMemB o) := row (lsOpcode .ret .mem .b) o (by decide) rfl rfl

theorem retMemDW (o : Operands) : Statement (.retMemDW o) := row (lsOpcode .ret .mem .dw) o (by decide) rfl rfl

theorem retLenW (o : Operands) : Statement (.retLenW o) := row (lsOpcode .ret .len .w) o (by decide) rfl rfl

theorem retLenH (o : Operands) : Statement (.retLenH o) := row (lsOpcode .ret .len .h) o (by decide) rfl rfl

theorem retLenB (o : Operands) : Statement (.retLenB o) := row (lsOpcode .ret .len .b) o (by decide) rfl rfl

theorem retLenDW (o : Operands) : Statement (.retLenDW o) := row (lsOpcode .ret .len .dw) o (by decide) rfl rfl

theorem retMshW (o : Operands) : Statement (.retMshW o) := row (lsOpcode .ret .msh .w) o (by decide) rfl rfl

theorem retMshH (o : Operands) : Statement (.retMshH o) := row (lsOpcode .ret .msh .h) o (by decide) rfl rfl

theorem retMshB (o : Operands) : Statement (.retMshB o) := row (lsOpcode .ret .msh .b) o (by decide) rfl rfl

theorem retMshDW (o : Operands) : Statement (.retMshDW o) := row (lsOpcode .ret .msh .dw) o (by decide) rfl rfl

theorem retXAddW (o : Operands) : Statement (.retXAddW o) := row (lsOpcode .ret .xAdd .w) o (by decide) rfl rfl

theorem retXAddH (o : Operands) : Statement (.retXAddH o) := row (lsOpcode .ret .xAdd .h) o (by decide) rfl rfl

theorem retXAddB (o : Operands) : Statement (.retXAddB o) := row (lsOpcode .ret .xAdd .b) o (by decide) rfl rfl

theorem retXAddDW (o : Operands) : Statement (.retXAddDW o) := row (lsOpcode .ret .xAdd .dw) o (by decide) rfl rfl

theorem addImm32 (o : Operands) : Statement (.addImm32 o) := row (aluOpcode .w32 .add .imm) o (by decide) rfl rfl

theorem addImm64 (o : Operands) : Statement (.addImm64 o) := row (aluOpcode .w64 .add .imm) o (by decide) rfl rfl

theorem addReg32 (o : Operands) : Statement (.addReg32 o) := row (aluOpcode .w32 .add .reg) o (by decide) rfl rfl

theorem addReg64 (o : Operands) : Statement (.addReg64 o) := row (aluOpcode .w64 .add .reg) o (by decide) rfl rfl

theorem subImm32 (o : Operands) : Statement (.subImm32 o) := row (aluOpcode .w32 .sub .imm) o (by decide) rfl rfl

theorem subImm64 (o : Operands) : Statement (.subImm64 o) := row (aluOpcode .w64 .sub .imm) o (by decide) rfl rfl

theorem subReg32 (o : Operands) : Statement (.subReg32 o) := row (aluOpcode .w32 .sub .reg) o (by decide) rfl rfl

theorem subReg64 (o : Operands) : Statement (.subReg64 o) := row (aluOpcode .w64 .sub .reg) o (by decide) rfl rfl

theorem mulImm32 (o : Operands) : Statement (.mulImm32 o) := row (aluOpcode .w32 .mul .imm) o (by decide) rfl rfl

theorem mulImm64 (o : Operands) : Statement (.mulImm64 o) := row (aluOpcode .w64 .mul .imm) o (by decide) rfl rfl

theorem mulReg32 (o : Operands) : Statement (.mulReg32 o) := row (aluOpcode .w32 .mul .reg) o (by decide) rfl rfl

theorem mulReg64 (o : Operands) : Statement (.mulReg64 o) := row (aluOpcode .w64 .mul .reg) o (by decide) rfl rfl

theorem divImm32 (o : Operands) : Statement (.divImm32 o) := row (aluOpcode .w32 .div .imm) o (by decide) rfl rfl

theorem divImm64 (o : Operands) : Statement (.divImm64 o) := row (aluOpcode .w64 .div .imm) o (by decide) rfl rfl

theorem divReg32 (o : Operands) : Statement (.divReg32 o) := row (aluOpcode .w32 .div .reg) o (by decide) rfl rfl

theorem divReg64 (o : Operands) : Statement (.divReg64 o) := row (aluOpcode .w64 .div .reg) o (by decide) rfl rfl

theorem orImm32 (o : Operands) : Statement (.orImm32 o) := row (aluOpcode .w32 .or .imm) o (by decide) rfl rfl

theorem orImm64 (o : Operands) : Statement (.orImm64 o) := row (aluOpcode .w64 .or .imm) o (by decide) rfl rfl

theorem orReg32 (o : Operands) : Statement (.orReg32 o) := row (aluOpcode .w32 .or .reg) o (by decide) rfl rfl

theorem orReg64 (o : Operands) : Statement (.orReg64 o) := row (aluOpcode .w64 .or .reg) o (by decide) rfl rfl

theorem andImm32 (o : Operands) : Statement (.andImm32 o) := row (aluOpcode .w32 .and .imm) o (by decide) rfl rfl

theorem andImm64 (o : Operands) : Statement (.andImm64 o) := row (aluOpcode .w64 .and .imm) o (by decide) rfl rfl

theorem andReg32 (o : Operands) : Statement (.andReg32 o) := row (aluOpcode .w32 .and .reg) o (by decide) rfl rfl

theorem andReg64 (o : Operands) : Statement (.andReg64 o) := row (aluOpcode .w64 .and .reg) o (by decide) rfl rfl

theorem leftShiftImm32 (o : Operands) : Statement (.leftShiftImm32 o) := row (aluOpcode .w32 .leftShift .imm) o (by decide) rfl rfl

theorem leftShiftImm64 (o : Operands) : Statement (.leftShiftImm64 o) := row (aluOpcode .w64 .leftShift .imm) o (by decide) rfl rfl

theorem leftShiftReg32 (o : Operands) : Statement (.leftShiftReg32 o) := row (aluOpcode .w32 .leftShift .reg) o (by decide) rfl rfl

theorem leftShiftReg64 (o : Operands) : Statement (.leftShiftReg64 o) := row (aluOpcode .w64 .leftShift .reg) o (by decide) rfl rfl

theorem rightShiftImm32 (o : Operands) : Statement (.rightShiftImm32 o) := row (aluOpcode .w32 .rightShift .imm) o (by decide) rfl rfl

theorem rightShiftImm64 (o : Operands) : Statement (.rightShiftImm64 o) := row (aluOpcode .w64 .rightShift .imm) o (by decide) rfl rfl

theorem rightShiftReg32 (o : Operands) : Statement (.rightShiftReg32 o) := row (aluOpcode .w32 .rightShift .reg) o (by decide) rfl rfl

theorem rightShiftReg64 (o : Operands) : Statement (.rightShiftReg64 o) := row (aluOpcode .w64 .rightShift .reg) o (by decide) rfl rfl

theorem negateImm32 (o : Operands) : Statement (.negateImm32 o) := row (aluOpcode .w32 .negate .imm) o (by decide) rfl rfl

theorem negateImm64 (o : Operands) : Statement (.negateImm64 o) := row (aluOpcode .w64 .negate .imm) o (by decide) rfl rfl

theorem negateReg32 (o : Operands) : Statement (.negateReg32 o) := row (aluOpcode .w32 .negate .reg) o (by decide) rfl rfl

theorem negateReg64 (o : Operands) : Statement (.negateReg64 o) := row (aluOpcode .w64 .negate .reg) o (by decide) rfl rfl

theorem modImm32 (o : Operands) : Statement (.modImm32 o) := row (aluOpcode .w32 .mod .imm) o (by decide) rfl rfl

theorem modImm64 (o : Operands) : Statement (.modImm64 o) := row (aluOpcode .w64 .mod .imm) o (by decide) rfl rfl

theorem modReg32 (o : Operands) : Statement (.modReg32 o) := row (aluOpcode .w32 .mod .reg) o (by decide) rfl rfl

theorem modReg64 (o : Operands) : Statement (.modReg64 o) := row (aluOpcode .w64 .mod .reg) o (by decide) rfl rfl

theorem xorImm32 (o : Operands) : Statement (.xorImm32 o) := row (aluOpcode .w32 .xor .imm) o (by decide) rfl rfl

theorem xorImm64 (o : Operands) : Statement (.xorImm64 o) := row (aluOpcode .w64 .xor .imm) o (by decide) rfl rfl

theorem xorReg32 (o : Operands) : Statement (.xorReg32 o) := row (aluOpcode .w32 .xor .reg) o (by decide) rfl rfl

theorem xorReg64 (o : Operands) : Statement (.xorReg64 o) := row (aluOpcode .w64 .xor .reg) o (by decide) rfl rfl

theorem moveImm32 (o : Operands) : Statement (.moveImm32 o) := row (aluOpcode .w32 .move .imm) o (by decide) rfl rfl

theorem moveImm64 (o : Operands) : Statement (.moveImm64 o) := row (aluOpcode .w64 .move .imm) o (by decide) rfl rfl

theorem moveReg32 (o : Operands) : Statement (.moveReg32 o) := row (aluOpcode .w32 .move .reg) o (by decide) rfl rfl

theorem moveReg64 (o : Operands) : Statement (.moveReg64 o) := row (aluOpcode .w64 .move .reg) o (by decide) rfl rfl

theorem arithmeticRightShiftImm32 (o : Operands) : Statement (.arithmeticRightShiftImm32 o) := row (aluOpcode .w32 .arithmeticRightShift .imm) o (by decide) rfl rfl

theorem arithmeticRightShiftImm64 (o : Operands) : Statement (.arithmeticRightShiftImm64 o) := row (aluOpcode .w64 .arithmeticRightShift .imm) o (by decide) rfl rfl

theorem arithmeticRightShiftReg32 (o : Operands) : Statement (.arithmeticRightShiftReg32 o) := row (aluOpcode .w32 .arithmeticRightShift .reg) o (by decide) rfl rfl

theorem arithmeticRightShiftReg64 (o : Operands) : Statement (.arithmeticRightShiftReg64 o) := row (aluOpcode .w64 .arithmeticRightShift .reg) o (by decide) rfl rfl

theorem endian (w : Width) (k : SK) (o : Operands) : Statement (.endian w k o) := by
  cases w <;> cases k <;> exact row _ o (by decide) rfl rfl

theorem alwaysImm (o : Operands) : Statement (.alwaysImm o) := row (jmpOpcode .always .imm) o (by decide) rfl rfl

theorem alwaysReg (o : Operands) : Statement (.alwaysReg o) := row (jmpOpcode .always .reg) o (by decide) rfl rfl

theorem equalImm (o : Operands) : Statement (.equalImm o) := row (jmpOpcode .equal .imm) o (by decide) rfl rfl

theorem equalReg (o : Operands) : Statement (.equalReg o) := row (jmpOpcode .equal .reg) o (by decide) rfl rfl

theorem greaterThanImm (o : Operands) : Statement (.greaterThanImm o) := row (jmpOpcode .greaterThan .imm) o (by decide) rfl rfl

theorem greaterThanReg (o : Operands) : Statement (.greaterThanReg o) := row (jmpOpcode .greaterThan .reg) o (by decide) rfl rfl

theorem greaterOrEqualImm (o : Operands) : Statement (.greaterOrEqualImm o) := row (jmpOpcode .greaterOrEqual .imm) o (by decide) rfl rfl

theorem greaterOrEqualReg (o : Operands) : Statement (.greaterOrEqualReg o) := row (jmpOpcode .greaterOrEqual .reg) o (by decide) rfl rfl

theorem bitTestImm (o : Operands) : Statement (.bitTestImm o) := row (jmpOpcode .bitTest .imm) o (by decide) rfl rfl

theorem bitTestReg (o : Operands) : Statement (.bitTestReg o) := row (jmpOpcode .bitTest .reg) o (by decide) rfl rfl

theorem notEqualImm (o : Operands) : Statement (.notEqualImm o) := row (jmpOpcode .notEqual .imm) o (by decide) rfl rfl

theorem notEqualReg (o : Operands) : Statement (.notEqualReg o) := row (jmpOpcode .notEqual .reg) o (by decide) rfl rfl

theorem signedGreaterThanImm (o : Operands) : Statement (.signedGreaterThanImm o) := row (jmpOpcode .signedGreaterThan .imm) o (by decide) rfl rfl

theorem signedGreaterThanReg (o : Operands) : Statement (.signedGreaterThanReg o) := row (jmpOpcode .signedGreaterThan .reg) o (by decide) rfl rfl

theorem signedGreaterOrEqualImm (o : Operands) : Statement (.signedGreaterOrEqualImm o) := row (jmpOpcode .signedGreaterOrEqual .imm) o (by decide) rfl rfl

theorem signedGreaterOrEqualReg (o : Operands) : Statement (.signedGreaterOrEqualReg o) := row (jmpOpcode .signedGreaterOrEqual .reg) o (by decide) rfl rfl

theorem call (k : SK) (o : Operands) : Statement (.call k o) := by
  cases k <;> exact row _ o (by decide) rfl rfl

theorem exit (k : SK) (o : Operands) : Statement (.exit k o) := by
  cases k <;> exact row _ o (by decide) rfl rfl

theorem unrecognizedJmp (n : Fin 6) (k : SK) (o : Operands) : Statement (.unrecognizedJmp n k o) := by
  revert n; cases k <;> intro n <;> fin_cases n <;> exact row _ o (by decide) rfl rfl

theorem unrecognizedLs (c : LSClass) (z : Size) (o : Operands) : Statement (.unrecognizedLs c z o) := by
  cases c <;> cases z <;> exact row _ o (by decide) rfl rfl

theorem unrecognizedAlu (w : Width) (n : Fin 2) (k : SK) (o : Operands) : Statement (.unrecognizedAlu w n k o) := by
  revert n; cases w <;> cases k <;> intro n <;> fin_cases n <;> exact row _ o (by decide) rfl rfl

theorem loadImmediate64 (dst : Reg) (imm64 : BitVec 64) : Statement (.loadImmediate64 dst imm64) := by
  intro _
  have h : ofInstruction (Instr.loadImmediate64 dst imm64).toInstruction =
      .loadImmediate64 dst (assembleImm64 (imm64.extractLsb' 0 32) (imm64.extractLsb' 32 32)) := rfl
  rw [h, assembleImm64_extract]

theorem loadMapFd (dst : Reg) (fd : BitVec 32) : Statement (.loadMapFd dst fd) := fun _ => rfl

end Sys2Proof.Laws.RowRoundTrip
end

