-- ==== Sys2Proof/Laws/State.lean ====
section
/-! SUPPORT. One lemma for each field of State and each operation that updates it, and what presenting a descriptor
answers. -/

namespace Sys2Proof.Machine

@[simp] theorem presented_input (s : State) (i : Instruction) (d : Decoded) (a : Ann) :
    (s.presented i d a).input = s.input := rfl

@[simp] theorem presented_program (s : State) (i : Instruction) (d : Decoded) (a : Ann) :
    (s.presented i d a).program = s.program ++ [i] := rfl

@[simp] theorem presented_stream (s : State) (i : Instruction) (d : Decoded) (a : Ann) :
    (s.presented i d a).stream = s.stream.writeBytes s.nextOffset (recordedBytes i) := rfl

@[simp] theorem presented_listing (s : State) (i : Instruction) (d : Decoded) (a : Ann) :
    (s.presented i d a).listing = s.listing
      ++ entryLines Config.helperName s.program.length (renderLine Config.helperName i d a) i.chain.tail := rfl

@[simp] theorem presented_output (s : State) (i : Instruction) (d : Decoded) (a : Ann) :
    (s.presented i d a).output = some (outputFor i d a) := rfl

/-- All that presenting a descriptor can do: it answers the presented state and nothing else. -/
theorem present_eq_next_iff (i : Instruction) (d : Decoded) (a : Ann) (s t : State) :
    present i d a s = .next t ↔ t = s.presented i d a := by
  constructor
  · intro h
    exact (Host.Outcome.next.inj h).symm
  · rintro rfl
    rfl

@[simp] theorem nextOffset_input (s : State) (q : List BuilderCall) :
    ({ s with input := q } : State).nextOffset = s.nextOffset := rfl

@[simp] theorem reset_input : State.reset.input = [] := rfl

@[simp] theorem reset_program : State.reset.program = [] := rfl

@[simp] theorem reset_stream : State.reset.stream = [] := rfl

@[simp] theorem reset_listing : State.reset.listing = "" := rfl

@[simp] theorem reset_output : State.reset.output = none := rfl

/-- A step with nothing presented. -/
theorem step_of_no_input {s : State} (h : s.input = []) : step s = .next s := by
  simp only [step, h]

/-- A step with a call presented. -/
theorem step_of_input {s : State} {c : BuilderCall} {rest : List BuilderCall} (h : s.input = c :: rest) :
    step s = exec (presentedInstr c) { s with input := rest } := by
  simp only [step, h]

end Sys2Proof.Machine
end

