-- ==== Sys2Proof/Tests/Slice0.lean ====
section
/-! SUPPORT. The model's own tests: the opcode map of 30_encoding.md R80 against the decoder and every arm of exec, the
vectors of 95_test_vectors.md, the checks of WellFormed, and a witness for the hypotheses of each statement. Every
expected value is the spec's. -/

namespace Sys2Proof.Tests

open Sys2Proof.Machine

/-! ## Helpers -/

/-- A helper table that names ID 1 alone, as 95_test_vectors.md assumes. -/
def testHelper : HelperTable := fun h => if h = 1 then some "MapLookupElement" else none

/-- The mnemonic that the arm of exec gives for the instruction decoded from a record of opcode byte `b`. -/
def armMnemonic (b : Nat) : String :=
  match decodeTableWord 8 b with
  | none => ""
  | some i =>
    match exec i State.reset with
    | .next t => (t.output.map fun u => opcodeMnemonic u.decoded).getD ""
    | .fault _ => ""
    | .refused _ => ""

/-- One row of the opcode map: the mnemonics of the 16 bytes from `b` on, `—` spelled out. -/
def mapRow (b : Nat) : List String := (List.range 16).map fun k => armMnemonic (b + k)

def unrec : String := "unrecognized opcode"

/-- A state that presents these calls. -/
def presenting (calls : List BuilderCall) : State := { State.reset with input := calls }

def lineOf : Result → String
  | .next t => (t.output.map fun u => u.line).getD ""
  | .fault _ => ""
  | .refused _ => ""

/-- The line of one step that presents `c`, for calls whose text does not rest on an open helper name. -/
def stepLine (c : BuilderCall) : String := lineOf (step (presenting [c]))

def hex (bs : List Byte) : List Nat := bs.map fun b => b.toNat

/-! ## The opcode map (R80): every byte through the decoder, its constructor and its arm -/

theorem test_map_row_0 : mapRow 0x00 =
    ["LdImmW", "LdXImmW", "StImmW", "StXImmW", "AddImm32", "AlwaysImm", "RetImmW", "AddImm64", "LdImmH", "LdXImmH", "StImmH", "StXImmH", "AddReg32", "AlwaysReg", "RetImmH", "AddReg64"] := by
  decide

theorem test_map_row_1 : mapRow 0x10 =
    ["LdImmB", "LdXImmB", "StImmB", "StXImmB", "SubImm32", "EqualImm", "RetImmB", "SubImm64", "LdImmDW", "LdXImmDW", "StImmDW", "StXImmDW", "SubReg32", "EqualReg", "RetImmDW", "SubReg64"] := by
  decide

theorem test_map_row_2 : mapRow 0x20 =
    ["LdAbsW", "LdXAbsW", "StAbsW", "StXAbsW", "MulImm32", "GreaterThanImm", "RetAbsW", "MulImm64", "LdAbsH", "LdXAbsH", "StAbsH", "StXAbsH", "MulReg32", "GreaterThanReg", "RetAbsH", "MulReg64"] := by
  decide

theorem test_map_row_3 : mapRow 0x30 =
    ["LdAbsB", "LdXAbsB", "StAbsB", "StXAbsB", "DivImm32", "GreaterOrEqualImm", "RetAbsB", "DivImm64", "LdAbsDW", "LdXAbsDW", "StAbsDW", "StXAbsDW", "DivReg32", "GreaterOrEqualReg", "RetAbsDW", "DivReg64"] := by
  decide

theorem test_map_row_4 : mapRow 0x40 =
    ["LdIndW", "LdXIndW", "StIndW", "StXIndW", "OrImm32", "BitTestImm", "RetIndW", "OrImm64", "LdIndH", "LdXIndH", "StIndH", "StXIndH", "OrReg32", "BitTestReg", "RetIndH", "OrReg64"] := by
  decide

theorem test_map_row_5 : mapRow 0x50 =
    ["LdIndB", "LdXIndB", "StIndB", "StXIndB", "AndImm32", "NotEqualImm", "RetIndB", "AndImm64", "LdIndDW", "LdXIndDW", "StIndDW", "StXIndDW", "AndReg32", "NotEqualReg", "RetIndDW", "AndReg64"] := by
  decide

theorem test_map_row_6 : mapRow 0x60 =
    ["LdMemW", "LdXMemW", "StMemW", "StXMemW", "LeftShiftImm32", "SignedGreaterThanImm", "RetMemW", "LeftShiftImm64", "LdMemH", "LdXMemH", "StMemH", "StXMemH", "LeftShiftReg32", "SignedGreaterThanReg", "RetMemH", "LeftShiftReg64"] := by
  decide

theorem test_map_row_7 : mapRow 0x70 =
    ["LdMemB", "LdXMemB", "StMemB", "StXMemB", "RightShiftImm32", "SignedGreaterOrEqualImm", "RetMemB", "RightShiftImm64", "LdMemDW", "LdXMemDW", "StMemDW", "StXMemDW", "RightShiftReg32", "SignedGreaterOrEqualReg", "RetMemDW", "RightShiftReg64"] := by
  decide

theorem test_map_row_8 : mapRow 0x80 =
    ["LdLenW", "LdXLenW", "StLenW", "StXLenW", "NegateImm32", "Call", "RetLenW", "NegateImm64", "LdLenH", "LdXLenH", "StLenH", "StXLenH", "NegateReg32", "Call", "RetLenH", "NegateReg64"] := by
  decide

theorem test_map_row_9 : mapRow 0x90 =
    ["LdLenB", "LdXLenB", "StLenB", "StXLenB", "ModImm32", "Exit", "RetLenB", "ModImm64", "LdLenDW", "LdXLenDW", "StLenDW", "StXLenDW", "ModReg32", "Exit", "RetLenDW", "ModReg64"] := by
  decide

theorem test_map_row_a : mapRow 0xA0 =
    ["LdMshW", "LdXMshW", "StMshW", "StXMshW", "XorImm32", unrec, "RetMshW", "XorImm64", "LdMshH", "LdXMshH", "StMshH", "StXMshH", "XorReg32", unrec, "RetMshH", "XorReg64"] := by
  decide

theorem test_map_row_b : mapRow 0xB0 =
    ["LdMshB", "LdXMshB", "StMshB", "StXMshB", "MoveImm32", unrec, "RetMshB", "MoveImm64", "LdMshDW", "LdXMshDW", "StMshDW", "StXMshDW", "MoveReg32", unrec, "RetMshDW", "MoveReg64"] := by
  decide

theorem test_map_row_c : mapRow 0xC0 =
    ["LdXAddW", "LdXXAddW", "StXAddW", "StXXAddW", "ArithmeticRightShiftImm32", unrec, "RetXAddW", "ArithmeticRightShiftImm64", "LdXAddH", "LdXXAddH", "StXAddH", "StXXAddH", "ArithmeticRightShiftReg32", unrec, "RetXAddH", "ArithmeticRightShiftReg64"] := by
  decide

theorem test_map_row_d : mapRow 0xD0 =
    ["LdXAddB", "LdXXAddB", "StXAddB", "StXXAddB", "Endian", unrec, "RetXAddB", "Endian", "LdXAddDW", "LdXXAddDW", "StXAddDW", "StXXAddDW", "Endian", unrec, "RetXAddDW", "Endian"] := by
  decide

theorem test_map_row_e : mapRow 0xE0 =
    [unrec, unrec, unrec, unrec, unrec, unrec, unrec, unrec, unrec, unrec, unrec, unrec, unrec, unrec, unrec, unrec] := by
  decide

theorem test_map_row_f : mapRow 0xF0 =
    [unrec, unrec, unrec, unrec, unrec, unrec, unrec, unrec, unrec, unrec, unrec, unrec, unrec, unrec, unrec, unrec] := by
  decide

theorem test_table_load_immediate64 : decodeTableWord 16 0x0018 = some (.loadImmediate64 0 0) := by decide

theorem test_table_load_map_fd : decodeTableWord 16 0x1018 = some (.loadMapFd 0 0) := by decide

theorem test_table_single_0x18 : decodeTableWord 8 0x18 = some (.ldImmDW ⟨0, 0, 0, 0, none⟩) := by decide

theorem test_step_runs_table_word :
    lineOf (step (State.reset.withFetchWord 16 0x1018)) = "op: LdImmDW dst: r0 src: r1 off: 0 imm: 0" := by
  decide

theorem test_decode_refuses_no_record : decode .little [] = .error .noRecord := by decide

theorem test_decode_refuses_partial_record : decode .little [0x95, 0, 0, 0, 0, 0, 0] = .error .partialRecord := by decide

theorem test_opcode_compositions :
    [lsOpcode .ld .imm .dw, lsOpcode .stX .mem .dw, aluOpcode .w64 .add .imm, aluOpcode .w64 .move .reg, callOpcode .imm,
      exitOpcode .imm] = [0x18, 0x7B, 0x07, 0xBF, 0x85, 0x95] := by
  decide

/-! ## Register pair (95_test_vectors.md 2.1) and display (2.7) -/

theorem test_pack_vectors :
    [pack 0 0, pack 15 15, pack 10 0, pack 0 10, pack 3 4, pack 17 18, pack 16 16, pack 255 255, pack 26 10] =
      [0x00, 0xFF, 0x0A, 0xA0, 0x43, 0x21, 0x00, 0xFF, 0xAA] := by
  decide

theorem test_unpack_vectors : [unpack 0x43, unpack 0x21, unpack 0xA0] = [(3, 4), (1, 2), (0, 10)] := by decide

theorem test_display_vectors :
    [display 0, display 9, display 10, display 11, display 26, display 255] =
      ["r0", "r9", "rfp", "r11", "r26", "r255"] := by
  decide

theorem test_register_roles :
    [regRole 0, regRole 1, regRole 5, regRole 6, regRole 9, regRole 10, regRole 11] =
      [some .returnValue, some .callArgument, some .callArgument, some .calleeSaved, some .calleeSaved,
        some .framePointer, none] := by
  decide

theorem test_dec : [dec 0, dec (-1), dec (-2147483648), dec 32767] = ["0", "-1", "-2147483648", "32767"] := by decide

/-! ## One record (95_test_vectors.md 2.2) -/

theorem test_record_both_orders_imm :
    hex (encodeRecord .little (buildDi 0x07 3 5)).bytes = [0x07, 0x03, 0, 0, 5, 0, 0, 0] ∧
    hex (encodeRecord .big (buildDi 0x07 3 5)).bytes = [0x07, 0x03, 0, 0, 0, 0, 0, 5] := by
  decide

theorem test_record_both_orders_off :
    hex (encodeRecord .little (buildDoi 0x62 10 (-4) 0)).bytes = [0x62, 0x0A, 0xFC, 0xFF, 0, 0, 0, 0] ∧
    hex (encodeRecord .big (buildDoi 0x62 10 (-4) 0)).bytes = [0x62, 0x0A, 0xFF, 0xFC, 0, 0, 0, 0] := by
  decide

theorem test_record_all_fields :
    hex (encodeRecord .little (buildDsoi 0x95 3 4 (-1) 9)).bytes = [0x95, 0x43, 0xFF, 0xFF, 9, 0, 0, 0] ∧
    hex (encodeRecord .little (buildDoi 0x65 1 32767 (-7))).bytes = [0x65, 0x01, 0xFF, 0x7F, 0xF9, 0xFF, 0xFF, 0xFF] := by
  decide

theorem test_record_truncates_registers :
    hex (encodeRecord .little (buildDs 0xBF 26 10)).bytes = [0xBF, 0xAA, 0, 0, 0, 0, 0, 0] := by
  decide

theorem test_record_word : (encodeRecord .little (buildDsoi 0x95 3 4 (-1) 9)).word = 0x00000009FFFF4395 := by decide

/-! ## Builder and chains (95_test_vectors.md 2.3) -/

theorem test_load_immediate64_records :
    hex (recordBytes ((buildLoadImmediate64 2 0x123456789ABCDEF0).encode .little)) =
      [0x18, 0x02, 0, 0, 0xF0, 0xDE, 0xBC, 0x9A, 0, 0, 0, 0, 0x78, 0x56, 0x34, 0x12] := by
  decide

theorem test_load_map_fd_records :
    hex (recordBytes ((buildLoadMapFd 3 0xFFFFFFFF).encode .little)) =
      [0x18, 0x13, 0, 0, 0xFF, 0xFF, 0xFF, 0xFF, 0, 0, 0, 0, 0, 0, 0, 0] := by
  decide

theorem test_build_dsi_is_one_record :
    hex (recordBytes ((buildDsi 0x18 1 1 7).encode .little)) = [0x18, 0x11, 0, 0, 7, 0, 0, 0] := by
  decide

theorem test_chain_of_three :
    ((Instruction.linked ⟨0x95, 0, 0, 0, 0⟩ (.linked ⟨0, 0, 0, 0, 1⟩ (.last ⟨0, 0, 0, 0, 2⟩))).encode .little).map
      (fun r => hex r.bytes) =
      [[0x95, 0, 0, 0, 0, 0, 0, 0], [0, 0, 0, 0, 1, 0, 0, 0], [0, 0, 0, 0, 2, 0, 0, 0]] := by
  decide

/-! ## Lines of the debug output (95_test_vectors.md 2.4 to 2.6), by one step where no open helper name is asked for -/

theorem test_lines_load_store :
    [stepLine (.dsi 0x20 0 1 14), stepLine (.dsoi 0x40 5 2 3 8), stepLine (.dso 0x61 0 1 4), stepLine (.dso 0x7B 10 1 (-8)),
      stepLine (.ds 0xDB 1 2), stepLine (.op 0xC1), stepLine (.op 0x1E), stepLine (.d 0xE0 1)] =
    ["op: LdAbsW src: r1 imm: 14", "op: LdIndW src: r2 imm: 8", "op: LdXMemW dst: r0 src: r1 off: 4 imm: 0",
      "op: StXMemDW dst: rfp src: r1 off: -8 imm: 0", "op: StXXAddDW dst: r1 src: r2 off: 0 imm: 0",
      "op: LdXXAddW dst: r0 src: r0 off: 0 imm: 0", "op: RetImmDW dst: r0 src: r0 off: 0 imm: 0",
      "op: unrecognized opcode"] := by
  decide

theorem test_lines_alu :
    [stepLine (.di 0x04 1 2), stepLine (.ds 0x0C 1 2), stepLine (.d 0x87 3), stepLine (.ds 0xBF 26 10),
      stepLine (.dsi 0xDC 1 9 32), stepLine (.di 0xD7 2 64), stepLine (.di 0xE4 1 1)] =
    ["op: AddImm32 dst: r1 imm: 2", "op: AddReg32 dst: r1 src: r2", "op: NegateImm64 dst: r3 imm: 0",
      "op: MoveReg64 dst: r26 src: rfp", "op: Endian dst: r1 imm: 32", "op: Endian dst: r2 imm: 64",
      "op: unrecognized opcode"] := by
  decide

theorem test_lines_jump :
    [stepLine (.dso 0x0D 0 3 (-1)), stepLine (.doi 0x15 1 3 0), stepLine (.dso 0x6D 1 2 (-32768)), stepLine (.i 0x85 1),
      stepLine (.dsi 0x8D 5 5 1), stepLine (.dsoi 0x9D 3 4 (-1) 9), stepLine (.doi 0xA5 1 1 0)] =
    ["op: AlwaysReg dst: r0 src: r3 off: -1", "op: EqualImm dst: r1 off: 3 imm: 0",
      "op: SignedGreaterThanReg dst: r1 src: r2 off: -32768", "op: Call MapLookupElement", "op: Call MapLookupElement",
      "op: Exit", "op: unrecognized opcode"] := by
  decide

theorem test_lines_unnamed_helper :
    [describe testHelper (buildI 0x85 99999), describe testHelper (buildI 0x85 (-1))] =
      ["op: Call unknown function call: 99999", "op: Call unknown function call: -1"] := by
  decide

/-! ## Programs as data (95_test_vectors.md 2.7, 3): positions, stream and listing -/

def p2 : Program :=
  [buildDoi 0x62 10 (-4) 0, buildDs 0xBF 2 10, buildDi 0x07 2 (-4), buildLoadMapFd 1 3, buildI 0x85 1, buildOp 0x95]

theorem test_p2_stream_big :
    hex ((encodeProgram .big p2).take 40) =
      [0x62, 0x0A, 0xFF, 0xFC, 0, 0, 0, 0, 0xBF, 0xA2, 0, 0, 0, 0, 0, 0, 0x07, 0x02, 0, 0, 0xFF, 0xFF, 0xFF, 0xFC,
        0x18, 0x11, 0, 0, 0, 0, 0, 3, 0, 0, 0, 0, 0, 0, 0, 0] := by
  decide

theorem test_p2_positions : recIndex p2 4 = 5 ∧ byteOffset p2 4 = 40 := by decide

theorem test_listing_of_a_chain :
    programListing testHelper [buildLoadImmediate64 1 0x100000002, buildOp 0x95] =
      "0: op: LdImmDW dst: r1 src: r0 off: 0 imm: 2\n\t0.1: op: LdImmW dst: r0 src: r0 off: 0 imm: 1\n1: op: Exit\n" := by
  decide

theorem test_p4_shows_what_the_wire_truncates :
    programListing testHelper [buildDs 0xBF 17 26] = "0: op: MoveReg64 dst: r17 src: r26\n" ∧
    hex (encodeProgram .little [buildDs 0xBF 17 26]) = [0xBF, 0xA1, 0, 0, 0, 0, 0, 0] := by
  decide

theorem test_reset_stream_is_canonical : State.reset.stream.wf := by simp [Memory.wf]

/-! ## WellFormed: an ill-formed term for each check -/

theorem test_wellFormed_accepts : (Instr.addImm64 ⟨15, 15, 0, 5, none⟩).wellFormed = true := by decide

theorem test_wellFormed_refuses_wide_dst : (Instr.addImm64 ⟨16, 0, 0, 5, none⟩).wellFormed = false := by decide

theorem test_wellFormed_refuses_wide_src : (Instr.moveReg64 ⟨0, 16, 0, 0, none⟩).wellFormed = false := by decide

theorem test_wellFormed_refuses_wide_continuation :
    (Instr.exit .imm ⟨0, 0, 0, 0, some (.last ⟨0, 16, 0, 0, 1⟩)⟩).wellFormed = false := by
  decide

theorem test_wellFormed_refuses_two_record_shape_as_operand :
    (Instr.ldImmDW ⟨1, 0, 0, 2, some (.last ⟨0, 0, 0, 0, 1⟩)⟩).wellFormed = false := by
  decide

theorem test_wellFormed_keeps_single_0x18 : (Instr.ldImmDW ⟨1, 1, 0, 7, none⟩).wellFormed = true := by decide

/-! ## Witnesses: concrete values that meet the hypotheses of each statement -/

theorem witness_EncodeWalksTheChain :
    (buildOp 0x95).cont = none ∧ (buildLoadMapFd 1 7).cont = some (continuation 0) := by
  decide

theorem witness_RecordKOccupiesItsEightBytes :
    (p2.flatMap fun i => i.encode .little)[6]? = some ⟨0x95, 0, 0, 0, 0, 0, 0, 0⟩ := by
  decide

theorem witness_InstructionStartsAtItsByteOffset : p2[5]? = some (buildOp 0x95) ∧ p2[0]? = some (buildDoi 0x62 10 (-4) 0) := by
  decide

theorem witness_LoadMapFdIsTheSameShapeWithSourceOne :
    (BuilderCall.loadImmediate64 1 ((7 : BitVec 32).setWidth 64)).build =
      .linked ⟨0x18, 1, 0, 0, 7⟩ (.last ⟨0, 0, 0, 0, 0⟩) := by
  decide

theorem witness_BuilderChainsHaveLengthOneOrTwo : ∀ i, BuilderCall.loadMapFd 1 7 ≠ .given i := by
  intro i h
  cases h

theorem witness_LoadStoreGroupDecodes :
    (buildOp 0x20).opcode = lsOpcode .ld .abs .w ∧ (buildOp 0xDE).opcode = lsOpcode .ret .xAdd .dw ∧
    (buildOp 0xE0).opcode = unnamedLsOpcode .ld .w ∧ (buildOp 0xFE).opcode = unnamedLsOpcode .ret .dw := by
  decide

theorem witness_AluGroupDecodes :
    (buildOp 0x04).opcode = aluOpcode .w32 .add .imm ∧ (buildOp 0xCF).opcode = aluOpcode .w64 .arithmeticRightShift .reg ∧
    (buildOp 0xD4).opcode = endianOpcode .w32 .imm ∧ (buildOp 0xDF).opcode = endianOpcode .w64 .reg ∧
    (buildOp 0xE4).opcode = unnamedAluOpcode .w32 0 .imm ∧ (buildOp 0xFF).opcode = unnamedAluOpcode .w64 1 .reg := by
  decide

theorem witness_JumpGroupDecodes :
    (buildOp 0x05).opcode = jmpOpcode .always .imm ∧ (buildOp 0x7D).opcode = jmpOpcode .signedGreaterOrEqual .reg ∧
    (buildOp 0x8D).opcode = callOpcode .reg ∧ (buildOp 0x9D).opcode = exitOpcode .reg ∧
    (buildOp 0xA5).opcode = unnamedJmpOpcode 0 .imm ∧ (buildOp 0xFD).opcode = unnamedJmpOpcode 5 .reg := by
  decide

theorem witness_ClassificationReadsTheOpcodeAlone : (buildI 0x85 1).opcode = (buildI 0x85 2).opcode := by decide

theorem witness_FallbackOutcomesHaveTheirCauses :
    [fallbackOf testHelper (classify (buildOp 0xE0)).1, fallbackOf testHelper (classify (buildOp 0xFF)).1,
      fallbackOf testHelper (classify (buildOp 0xA5)).1, fallbackOf testHelper (classify (buildI 0x85 2)).1,
      fallbackOf testHelper (classify (buildI 0x85 1)).1] =
    [some .fbLsMode, some .fbAluOp, some .fbJmpOp, some .fbHelper, none] := by
  decide

theorem witness_RegisterRolesAndDisplays : 11 ≤ (11 : Reg).toNat ∧ 11 ≤ (255 : Reg).toNat := by decide

theorem witness_DisplayShowsTheFullRegisterValue : display (26 : Reg) = display (26 : Reg) := rfl

theorem witness_DecimalHasNoLeadingZero : 0 < (10 : Nat) := by decide

theorem witness_LoadStoreLine : (buildDso 0x61 0 1 4).opcode = lsOpcode .ldX .mem .w := by decide

theorem witness_AluLine :
    (buildDi 0x07 3 5).opcode = aluOpcode .w64 .add .imm ∧ (buildDs 0xBF 2 10).opcode = aluOpcode .w64 .move .reg ∧
    (buildDi 0xDC 1 16).opcode = endianOpcode .w32 .reg := by
  decide

theorem witness_JumpLine :
    (buildDoi 0x15 1 3 0).opcode = jmpOpcode .equal .imm ∧ (buildDso 0x1D 1 2 3).opcode = jmpOpcode .equal .reg := by
  decide

theorem witness_CallLineNamesTheHelper :
    (buildI 0x85 1).opcode = 0x85 ∧ (buildI 0x8D 1).opcode = 0x8D ∧ testHelper (buildI 0x85 1).imm = some "MapLookupElement" ∧
    testHelper (buildI 0x85 2).imm = none ∧ (buildI 0x85 1).imm = 1 := by
  decide

theorem witness_ExitLineIgnoresItsFields : (buildDsoi 0x95 3 4 (-1) 9).opcode = 0x95 ∧ (buildOp 0x9D).opcode = 0x9D := by
  decide

theorem witness_DescribeIsASingleLine :
    ∀ n, testHelper (buildI 0x85 1).imm = some n → '\n' ∉ n.toList := by
  intro n h
  obtain rfl : "MapLookupElement" = n := Option.some.inj h
  decide

theorem witness_EveryDescriptorIsAnInstruction :
    (Instr.loadMapFd 1 7).canonical = true ∧ (Instr.addImm64 ⟨255, 0, 0, 5, none⟩).canonical = true := by
  decide

theorem witness_DecodeInvertsEncode :
    (Instr.loadImmediate64 15 0x100000002).wellFormed = true ∧ (Instr.unrecognizedJmp 5 .reg ⟨0, 0, 0, 0, none⟩).wellFormed = true := by
  decide

theorem witness_EncodeInvertsDecode :
    decode .big [0x07, 0x03, 0, 0, 0, 0, 0, 5] = .ok (.addImm64 ⟨3, 0, 0, 5, none⟩) := by
  decide

theorem witness_ExecFrame :
    ∃ t, exec (.exit .imm ⟨3, 4, 0xFFFF, 9, none⟩) (presenting [.op 0x95]) = .next t := ⟨_, rfl⟩

theorem witness_OutputDependsOnTheInstructionAlone :
    ∃ t t', exec (.addImm64 ⟨3, 0, 0, 5, none⟩) State.reset = .next t ∧
      exec (.addImm64 ⟨3, 0, 0, 5, none⟩) (presenting [.op 0x95]) = .next t' := ⟨_, _, rfl, rfl⟩

theorem witness_StepRunsThePresentedInstruction :
    (presenting [.di 0x07 3 5]).input = .di 0x07 3 5 :: [] ∧
    (Instr.addImm64 ⟨3, 0, 0, 5, none⟩).canonical = true ∧
    (presenting [.given (buildDi 0x07 3 5)]).input = .given (Instr.addImm64 ⟨3, 0, 0, 5, none⟩).toInstruction :: [] ∧
    decodeTableWord 8 0x07 = some (.addImm64 ⟨0, 0, 0, 0, none⟩) := by
  decide

theorem witness_IdleStepChangesNothing : State.reset.input = [] := rfl

/-- A consistent state with a program of one instruction, and one more call presented. -/
def oneInstruction : State :=
  { State.reset.presented (buildLoadMapFd 1 7) (.ls .ld .imm .dw false) (annLS .imm) with input := [.op 0x95] }

theorem oneInstruction_consistent : oneInstruction.Consistent where
  stream_wf := cellsFrom_wf 0 (encodeProgram Config.wireOrder oneInstruction.program)
  stream_eq := rfl
  listing_eq := by decide
  output_eq := by
    show some (outputFor _ _ _) = some (outputFor _ (classify (buildLoadMapFd 1 7)).1 (classify (buildLoadMapFd 1 7)).2)
    rw [show classify (buildLoadMapFd 1 7) = (.ls .ld .imm .dw false, annLS .imm) by decide]
    rfl

theorem witness_StepKeepsConsistency :
    oneInstruction.Consistent ∧ ∃ t, step oneInstruction = .next t := ⟨oneInstruction_consistent, _, rfl⟩

theorem witness_StepKeepsStreamCanonical :
    oneInstruction.stream.wf ∧ ∃ t, step oneInstruction = .next t := ⟨oneInstruction_consistent.stream_wf, _, rfl⟩

theorem witness_EarlierBytesNeverChange :
    oneInstruction.Consistent ∧ (∃ t, step oneInstruction = .next t) ∧
      15 < (encodeProgram Config.wireOrder oneInstruction.program).length := ⟨oneInstruction_consistent, ⟨_, rfl⟩, by decide⟩

theorem witness_RunEncodesAndListsTheWholeProgram :
    oneInstruction.Consistent ∧ oneInstruction.input = [.op 0x95] := ⟨oneInstruction_consistent, rfl⟩

end Sys2Proof.Tests
end

section
/-! PROOFS. The decimal text of a number (R9). -/

namespace Sys2Proof.Machine

theorem dec_natCast (n : Nat) : dec n = n.repr := rfl

theorem toList_dec_natCast (n : Nat) : (dec n).toList = Nat.toDigits 10 n := by
  rw [dec_natCast, Nat.repr_eq_ofList_toDigits, String.toList_ofList]

theorem dec_neg_natCast {n : Nat} (hn : 0 < n) : dec (-(n : Int)) = "-" ++ dec n := by
  obtain ⟨m, rfl⟩ := Nat.exists_eq_add_one.mpr hn
  rfl

/-- The leading digit of `n` is that of `n / 10` while `n` has more than one digit, and a single digit is `0` only for
`n = 0`. -/
theorem head?_toDigits_ten_ne_zero (n : Nat) (hn : 0 < n) : (Nat.toDigits 10 n).head? ≠ some '0' := by
  induction n using Nat.strong_induction_on with
  | _ n ih =>
    by_cases hlt : n < 10
    · rw [Nat.toDigits_of_lt_base hlt, List.head?_cons, ne_eq, Option.some_inj, Nat.digitChar_eq_zero]
      exact hn.ne'
    · have hge : 10 ≤ n := Nat.le_of_not_lt hlt
      rw [Nat.toDigits_of_base_le (by decide) hge, List.head?_append_of_ne_nil _ Nat.toDigits_ne_nil]
      exact ih (n / 10) (Nat.div_lt_self hn (by decide)) (Nat.div_pos hge (by decide))

theorem isDigit_of_mem_dec_natCast {n : Nat} {c : Char} (hc : c ∈ (dec n).toList) : c.isDigit = true :=
  Nat.isDigit_of_mem_toDigits (by decide) (by decide) (toList_dec_natCast n ▸ hc)

theorem head?_dec_natCast_ne_zero {n : Nat} (hn : 0 < n) : (dec n).toList.head? ≠ some '0' := by
  rw [toList_dec_natCast]
  exact head?_toDigits_ten_ne_zero n hn

theorem head?_dec_natCast_ne_plus (n : Nat) : (dec n).toList.head? ≠ some '+' := by
  intro h
  have hdigit : '+'.isDigit = true := isDigit_of_mem_dec_natCast (List.mem_of_head? h)
  exact absurd hdigit (by decide)

/-- Settles O27: the digits are the library's base-10 digits, whose first one is not `0` by descent on `n / 10`. -/
theorem decimalHasNoLeadingZero : Obligations.DecimalHasNoLeadingZero :=
  ⟨toList_dec_natCast, fun n hn => ⟨head?_dec_natCast_ne_zero hn, head?_dec_natCast_ne_plus n⟩, rfl,
    fun _ hn => dec_neg_natCast hn⟩

end Sys2Proof.Machine
end

section
/-! PROOFS. What every instruction does to the state, said once for all rows of the opcode table: its descriptor is
presented with the decoder's own outputs for it. -/

namespace Sys2Proof.Machine

/-- The state after descriptor `x` was presented with what the decoder's algorithm gives for it. -/
def State.presentDecoded (s : State) (x : Instruction) : State := s.presented x (classify x).1 (classify x).2

@[simp] theorem presentDecoded_input (s : State) (x : Instruction) : (s.presentDecoded x).input = s.input := rfl

@[simp] theorem presentDecoded_program (s : State) (x : Instruction) :
    (s.presentDecoded x).program = s.program ++ [x] := rfl

@[simp] theorem presentDecoded_stream (s : State) (x : Instruction) :
    (s.presentDecoded x).stream = s.stream.writeBytes s.nextOffset (recordedBytes x) := rfl

@[simp] theorem presentDecoded_listing (s : State) (x : Instruction) :
    (s.presentDecoded x).listing = s.listing ++ instructionLines Config.helperName s.program.length x := rfl

@[simp] theorem presentDecoded_output (s : State) (x : Instruction) :
    (s.presentDecoded x).output = some (blockOutput x) := rfl

theorem present_eq_of_classify {x : Instruction} {d : Decoded} {a : Ann} (h : classify x = (d, a)) (s : State) :
    present x d a s = .next (s.presentDecoded x) := by
  rw [State.presentDecoded, h]
  rfl

/-- R162 to R175 for every row of the table: what its arm gives is the decoder's answer for a row of its form. The rows
not named here are those of the load/store group, the ordinary ALU rows and the compare and control rows. -/
theorem exec_eq_presentDecoded (i : Instr) (s : State) : exec i s = .next (s.presentDecoded i.toInstruction) := by
  cases i with
  | endian w k o => exact present_eq_of_classify (classify_endianRow w k o) s
  | call k o => exact present_eq_of_classify (classify_callRow k o) s
  | exit k o => exact present_eq_of_classify (classify_exitRow k o) s
  | unrecognizedJmp n k o => exact present_eq_of_classify (classify_unnamedJmpRow n k o) s
  | unrecognizedLs c z o => exact present_eq_of_classify (classify_unnamedLsRow c z o) s
  | unrecognizedAlu w n k o => exact present_eq_of_classify (classify_unnamedAluRow w n k o) s
  | loadImmediate64 dst imm64 => exact present_eq_of_classify (classify_loadImmediate64 dst imm64) s
  | loadMapFd dst fd => exact present_eq_of_classify (classify_loadMapFd dst fd) s
  | _ o => exact present_eq_of_classify (by simp only [classify_lsRow, classify_aluRow, classify_jmpRow]) s

theorem exec_eq_next_iff (i : Instr) (s t : State) : exec i s = .next t ↔ t = s.presentDecoded i.toInstruction := by
  rw [exec_eq_presentDecoded, Host.Outcome.next.injEq, eq_comm]

end Sys2Proof.Machine
end

section
/-! PROOFS. The instruction that a descriptor is has that descriptor: the opcode map (R80) against the composition of
the opcode byte from its fields (R78), and the two-record rows (R111, R112). -/

namespace Sys2Proof

theorem toInstruction_opcodeMap (hi lo : Fin 16) (o : Operands) :
    (opcodeMap[hi][lo] o).toInstruction =
      o.withOpcode ((BitVec.ofFin hi : BitVec 4) ++ (BitVec.ofFin lo : BitVec 4)) := by
  fin_cases hi <;> fin_cases lo <;> rfl

theorem highNibble_append_lowNibble (op : Byte) : op.extractLsb' 4 4 ++ op.extractLsb' 0 4 = op := by
  revert op
  decide

theorem toInstruction_ofOpcode (op : Byte) (o : Operands) : (ofOpcode op o).toInstruction = o.withOpcode op := by
  rw [ofOpcode, toInstruction_opcodeMap, highNibble_append_lowNibble]

/-- The low half of an assembled 64-bit immediate is the first record's (R85). -/
@[simp] theorem lowHalf_assembleImm64 (lo hi : Imm) : (assembleImm64 lo hi).extractLsb' 0 32 = lo :=
  BitVec.extractLsb'_append_eq_right

/-- The high half of an assembled 64-bit immediate is the continuation's (R85). -/
@[simp] theorem highHalf_assembleImm64 (lo hi : Imm) : (assembleImm64 lo hi).extractLsb' 32 32 = hi :=
  BitVec.extractLsb'_append_eq_left

/-- A descriptor of a two-record shape is one that a pseudo-instruction builds, and it is taken as that
pseudo-instruction (R111, R112). -/
theorem twoRecordRow_cases {x : Instruction} {j : Instr} (h : twoRecordRow x = some j) :
    (∃ dst imm64, x = buildLoadImmediate64 dst imm64 ∧ j = .loadImmediate64 dst imm64) ∨
    (∃ dst fd, x = buildLoadMapFd dst fd ∧ j = .loadMapFd dst fd) := by
  match x with
  | .last _ => cases h
  | .linked _ (.linked _ _) => cases h
  | .linked ⟨op, dst, src, off, lo⟩ (.last ⟨op', dst', src', off', hi⟩) =>
    simp only [twoRecordRow] at h
    split at h
    next hshape =>
      obtain ⟨rfl, rfl, rfl, rfl, rfl, rfl⟩ := hshape
      split at h
      next hsrc =>
        subst hsrc
        cases h
        refine .inl ⟨dst, _, ?_, rfl⟩
        rw [buildLoadImmediate64, lowHalf_assembleImm64, highHalf_assembleImm64]
        rfl
      next =>
        split at h
        next hmap =>
          obtain ⟨rfl, rfl⟩ := hmap
          cases h
          exact .inr ⟨dst, lo, rfl, rfl⟩
        next => cases h
    next => cases h

theorem toInstruction_of_twoRecordRow {x : Instruction} {j : Instr} (h : twoRecordRow x = some j) :
    j.toInstruction = x := by
  obtain ⟨dst, imm64, rfl, rfl⟩ | ⟨dst, fd, rfl, rfl⟩ := twoRecordRow_cases h
  · rfl
  · rfl

/-- Every descriptor is the descriptor of the instruction it is taken as (R78, R79, R111, R112). -/
@[simp] theorem toInstruction_ofInstruction (x : Instruction) : (ofInstruction x).toInstruction = x := by
  rw [ofInstruction]
  split
  next j h => exact toInstruction_of_twoRecordRow h
  next => rw [toInstruction_ofOpcode, withOpcode_operands]

end Sys2Proof
end

section
/-! PROOFS. What every instruction leaves in the state (10_state.md). -/

namespace Sys2Proof.Machine

theorem recordedBytes_length (x : Instruction) : (recordedBytes x).length = 8 * x.chain.length := by
  simp [recordedBytes]

theorem read_presentDecoded_inside (s : State) (x : Instruction) {k : Nat} (hk : k < 8 * x.chain.length) :
    (s.presentDecoded x).stream.read (s.nextOffset + k) = (recordedBytes x)[k]? :=
  Memory.read_writeBytes_inside _ _ _ (by rwa [recordedBytes_length])

theorem read_presentDecoded_outside (s : State) (x : Instruction) {a : Nat}
    (ha : a < s.nextOffset ∨ s.nextOffset + 8 * x.chain.length ≤ a) :
    (s.presentDecoded x).stream.read a = s.stream.read a :=
  Memory.read_writeBytes_outside _ _ (by rwa [recordedBytes_length])

/-- Settles O48: an instruction presents its descriptor, and a stored run of bytes is read back inside itself and changes
nothing outside. -/
theorem execFrame : Obligations.ExecFrame := by
  intro i s t h
  obtain rfl := (exec_eq_next_iff i s t).1 h
  exact ⟨rfl, rfl, ⟨_, rfl⟩, fun _ => read_presentDecoded_inside s _, fun _ => read_presentDecoded_outside s _⟩

/-- Settles O49: the outputs are those of the descriptor alone. -/
theorem outputDependsOnTheInstructionAlone : Obligations.OutputDependsOnTheInstructionAlone := by
  intro i s s' t t' h h'
  obtain rfl := (exec_eq_next_iff i s t).1 h
  obtain rfl := (exec_eq_next_iff i s' t').1 h'
  rfl

/-- Settles O51: `step` answers the state itself when its queue is empty. -/
theorem idleStepChangesNothing : Obligations.IdleStepChangesNothing := fun _ => step_of_no_input

theorem reset_consistent : State.reset.Consistent where
  stream_wf := .nil
  stream_eq := rfl
  listing_eq := rfl
  output_eq := rfl

/-- Settles O52: the stream, the listing and the output of the empty program are empty. -/
theorem resetIsConsistent : Obligations.ResetIsConsistent :=
  ⟨reset_program, reset_stream, reset_listing, reset_output, reset_input, reset_consistent⟩

end Sys2Proof.Machine
end

section
/-! PROOFS. Where an instruction's records stand in the stream (10_state.md section 5). -/

namespace Sys2Proof

/-- The records before position `p` are those of the program that ends there (R28). -/
theorem recIndex_eq_recIndex_take (P : Program) (p : Nat) : recIndex P p = recIndex (P.take p) (P.take p).length := by
  rw [recIndex, recIndex_length]

theorem recIndex_eq_length_records (wo : WireOrder) (P : Program) (p : Nat) :
    recIndex P p = ((P.take p).flatMap fun j => j.encode wo).length := by
  simp only [recIndex, List.length_flatMap, encode_length]

theorem encodeProgram_take_length (wo : WireOrder) (P : Program) (p : Nat) :
    (encodeProgram wo (P.take p)).length = 8 * recIndex P p := by
  rw [encodeProgram_length_eq_byteOffset, byteOffset, ← recIndex_eq_recIndex_take]

/-- The stream around position `p`: the bytes before it, the bytes of its instruction, the bytes after it (R55). -/
theorem encodeProgram_eq_around {P : Program} {p : Nat} {i : Instruction} (wo : WireOrder) (h : P[p]? = some i) :
    encodeProgram wo P =
      encodeProgram wo (P.take p) ++ (recordBytes (i.encode wo) ++ encodeProgram wo (P.drop (p + 1))) := by
  obtain ⟨hp, rfl⟩ := List.getElem?_eq_some_iff.1 h
  calc encodeProgram wo P = encodeProgram wo (P.take p ++ ([P[p]] ++ P.drop (p + 1))) := by simp
    _ = _ := by rw [encodeProgram_append, encodeProgram_append, encodeProgram_singleton]

/-- Settles O11: the bytes before position `p` are 8 for each record of the instructions before it. -/
theorem instructionStartsAtItsByteOffset : Obligations.InstructionStartsAtItsByteOffset := by
  intro wo P p i h
  refine ⟨recIndex_eq_length_records wo P p, ?_⟩
  rw [encodeProgram_eq_around wo h, ← encodeProgram_take_length wo, List.drop_left, List.take_left']
  simp

end Sys2Proof
end

section
/-! PROOFS. Register roles and displays (10_state.md R21, R22). -/

namespace Sys2Proof.Machine

/-- The ranges of register values and their roles (R21). -/
theorem regRole_cases (r : Reg) :
    (r.toNat = 0 ∧ regRole r = some .returnValue) ∨
    (1 ≤ r.toNat ∧ r.toNat ≤ 5 ∧ regRole r = some .callArgument) ∨
    (6 ≤ r.toNat ∧ r.toNat ≤ 9 ∧ regRole r = some .calleeSaved) ∨
    (r.toNat = 10 ∧ regRole r = some .framePointer) ∨
    (11 ≤ r.toNat ∧ regRole r = none) := by
  simp only [regRole]
  split_ifs <;> simp <;> omega

theorem regRole_eq_iff (r : Reg) :
    (regRole r = some .returnValue ↔ r = 0) ∧
    (regRole r = some .callArgument ↔ 1 ≤ r.toNat ∧ r.toNat ≤ 5) ∧
    (regRole r = some .calleeSaved ↔ 6 ≤ r.toNat ∧ r.toNat ≤ 9) ∧
    (regRole r = some .framePointer ↔ r = 10) ∧
    (regRole r = none ↔ 11 ≤ r.toNat) := by
  have h0 : r = 0 ↔ r.toNat = 0 := BitVec.toNat_inj.symm
  have h10 : r = 10 ↔ r.toNat = 10 := BitVec.toNat_inj.symm
  rw [h0, h10]
  obtain ⟨hr, role⟩ | ⟨hr, hr', role⟩ | ⟨hr, hr', role⟩ | ⟨hr, role⟩ | ⟨hr, role⟩ := regRole_cases r <;>
    simp [role] <;> omega

theorem display_of_ne_ten {r : Reg} (h : r.toNat ≠ 10) : display r = "r" ++ toString r.toNat := by
  rw [display, if_neg h]
  rfl

/-- Settles O25: the ranges of the roles do not overlap, and only the value 10 has a display of its own. -/
theorem registerRolesAndDisplays : Obligations.RegisterRolesAndDisplays :=
  ⟨regRole_eq_iff, rfl, rfl, rfl, rfl, rfl, rfl, rfl, rfl, rfl, rfl, rfl, fun _ h => display_of_ne_ten (by omega)⟩

end Sys2Proof.Machine
end

section
/-! PROOFS. A consistent state stays consistent, and a run over all presented calls (10_state.md R27). -/

namespace Sys2Proof.Machine

theorem listingFrom_append (ht : HelperTable) (p : Nat) (P : Program) (x : Instruction) :
    listingFrom ht p (P ++ [x]) = listingFrom ht p P ++ instructionLines ht (p + P.length) x := by
  induction P generalizing p with
  | nil => simp [listingFrom]
  | cons y P ih => simp [listingFrom, ih, String.append_assoc, Nat.add_assoc, Nat.add_comm 1]

theorem programListing_append (ht : HelperTable) (P : Program) (x : Instruction) :
    programListing ht (P ++ [x]) = programListing ht P ++ instructionLines ht P.length x := by
  rw [programListing, listingFrom_append, Nat.zero_add, programListing]

/-- The next record is stored where the encoding of the program ends. -/
theorem nextOffset_eq_encodeProgram_length (s : State) :
    s.nextOffset = (encodeProgram Config.wireOrder s.program).length :=
  (encodeProgram_length_eq_byteOffset _ _).symm

/-- What a descriptor leaves in a consistent state is consistent again: its bytes go to the stream's end (R55, R137), its
lines to the listing's (R212). -/
theorem State.Consistent.presentDecoded {s : State} (h : s.Consistent) (x : Instruction) :
    (s.presentDecoded x).Consistent where
  stream_wf := Memory.writeBytes_wf _ _ h.stream_wf
  stream_eq := by
    have hend := writeBytes_cellsFrom_end 0 (encodeProgram Config.wireOrder s.program) (recordedBytes x)
    rw [Nat.zero_add, ← nextOffset_eq_encodeProgram_length, ← h.stream_eq] at hend
    rw [presentDecoded_stream, hend, presentDecoded_program, encodeProgram_append, encodeProgram_singleton]
    rfl
  listing_eq := by
    rw [presentDecoded_listing, presentDecoded_program, programListing_append, h.listing_eq]
  output_eq := by simp

/-- The calls waiting are no part of what consistency speaks of. -/
theorem State.Consistent.withInput {s : State} (h : s.Consistent) (q : List BuilderCall) :
    ({ s with input := q } : State).Consistent :=
  ⟨h.stream_wf, h.stream_eq, h.listing_eq, h.output_eq⟩

/-- A step presents the descriptor that the next call builds. -/
theorem step_eq_presentDecoded {s : State} {c : BuilderCall} {rest : List BuilderCall} (h : s.input = c :: rest) :
    step s = .next (({ s with input := rest } : State).presentDecoded c.build) := by
  rw [step_of_input h, exec_eq_presentDecoded, presentedInstr, toInstruction_ofInstruction]

theorem run_succ_of_step (M : Host.Core) (k : Nat) {s s' : M.State} (h : M.step s = .next s') :
    M.run (k + 1) s = M.run k s' := by
  simp only [Host.Core.run, h]

/-- The run takes all calls presented, and ends in a consistent state that holds their descriptors in order. -/
theorem run_presented (calls : List BuilderCall) (s : State) (hs : s.Consistent) (hin : s.input = calls) :
    ∃ t : State, Sys2Proof.core.run calls.length s = .next t ∧ t.Consistent ∧ t.input = [] ∧
      t.program = s.program ++ calls.map BuilderCall.build := by
  induction calls generalizing s with
  | nil => exact ⟨s, rfl, hs, hin, by simp⟩
  | cons c rest ih =>
    have hstep : Sys2Proof.core.step s = .next _ := step_eq_presentDecoded hin
    obtain ⟨t, hrun, ht, htin, htprog⟩ := ih _ ((hs.withInput rest).presentDecoded c.build) rfl
    exact ⟨t, (run_succ_of_step _ _ hstep).trans hrun, ht, htin, by simp [htprog]⟩

/-- Settles O56: by induction on the calls a run ends in a consistent state that holds the whole program. -/
theorem runEncodesAndListsTheWholeProgram : Obligations.RunEncodesAndListsTheWholeProgram := by
  intro calls s hs hin
  obtain ⟨t, hrun, ht, htin, htprog⟩ := run_presented calls s hs hin
  exact ⟨t, hrun, htin, htprog, htprog ▸ ht.stream_eq, htprog ▸ ht.listing_eq⟩

end Sys2Proof.Machine
end

section
/-! PROOFS. The register byte, and a record seen as one little-endian 64-bit word (20_memory.md R51, R54). -/

namespace Sys2Proof

/-- The two nibbles of a register byte, packed again (R132, R133). -/
theorem pack_unpack (b : Byte) : pack ((unpack b).1.setWidth 8) ((unpack b).2.setWidth 8) = b := by
  revert b
  decide

/-- The packed pair read back is the low nibbles of the two registers (R131, R133). -/
theorem unpack_pack (d s : Reg) : unpack (pack d s) = (nib d, nib s) := by
  have hdst : (pack d s).extractLsb' 0 4 = nib d := by
    apply BitVec.eq_of_getLsbD_eq
    intro i hi
    simp [nib, hi, getLsbD_pack d s i (by omega)]
  have hsrc : (pack d s).extractLsb' 4 4 = nib s := by
    apply BitVec.eq_of_getLsbD_eq
    intro i hi
    simp [nib, hi, getLsbD_pack d s (4 + i) (by omega)]
  rw [unpack, hdst, hsrc]

/-- A record's word with the bytes of each field together (R51, R54). -/
theorem word_eq_fields (r : Record) :
    r.word = (r.b7 ++ r.b6 ++ r.b5 ++ r.b4) ++ ((r.b3 ++ r.b2) ++ (r.b1 ++ r.b0)) := by
  simp only [Record.word, BitVec.append_assoc, BitVec.cast_eq]

theorem opcode_of_word (r : Record) : r.word.extractLsb' 0 8 = r.b0 := BitVec.extractLsb'_append_eq_right

theorem nibble_of_word (r : Record) {start : Nat} (h : start + 4 ≤ 8) :
    r.word.extractLsb' (8 + start) 4 = r.b1.extractLsb' start 4 := by
  rw [word_eq_fields, BitVec.extractLsb'_append_eq_of_add_le (by omega),
    BitVec.extractLsb'_append_eq_of_add_le (by omega), BitVec.extractLsb'_append_eq_of_le (Nat.le_add_right 8 start),
    Nat.add_sub_cancel_left]

theorem offset_of_word (r : Record) : r.word.extractLsb' 16 16 = r.b3 ++ r.b2 := by
  rw [word_eq_fields, BitVec.extractLsb'_append_eq_of_add_le (by decide), BitVec.extractLsb'_append_eq_left]

theorem immediate_of_word (r : Record) : r.word.extractLsb' 32 32 = r.b7 ++ r.b6 ++ r.b5 ++ r.b4 := by
  rw [word_eq_fields, BitVec.extractLsb'_append_eq_left]

/-- Settles O5: under little the byte order of the word is that of the fields, under big its reverse. -/
theorem recordAsLittleEndianWord : Obligations.RecordAsLittleEndianWord := by
  refine ⟨fun wo i => ⟨opcode_of_word _, ?_, ?_⟩, fun i => ⟨?_, ?_⟩,
    fun i => ⟨offset_of_word _, immediate_of_word _⟩⟩
  · calc (encodeRecord wo i).word.extractLsb' 8 4
      _ = (unpack (pack i.dst i.src)).1 := nibble_of_word (start := 0) _ (by decide)
      _ = nib i.dst := by rw [unpack_pack]
  · calc (encodeRecord wo i).word.extractLsb' 12 4
      _ = (unpack (pack i.dst i.src)).2 := nibble_of_word (start := 4) _ (by decide)
      _ = nib i.src := by rw [unpack_pack]
  · exact (offset_of_word _).trans (deser16_ser16 .little i.off)
  · exact (immediate_of_word _).trans (deser32_ser32 .little i.imm)

end Sys2Proof
end

section
/-! PROOFS. Records laid back to back in the stream, and bytes cut into records (20_memory.md sections 1 and 3). -/

namespace Sys2Proof

/-- Every record is 8 bytes (R50), so leaving out `k` records leaves out `8 * k` bytes. -/
theorem drop_recordBytes (rs : List Record) (k : Nat) : (recordBytes rs).drop (8 * k) = recordBytes (rs.drop k) := by
  induction k generalizing rs with
  | zero => rfl
  | succ k ih =>
    cases rs with
    | nil => simp
    | cons r rs =>
      rw [Nat.mul_succ, Nat.add_comm]
      exact (List.drop_length_add_append (l₁ := r.bytes) (8 * k)).trans (ih rs)

/-- A program's stream is its records, continuation records counted, laid back to back (R55, R137). -/
theorem encodeProgram_eq_recordBytes (wo : WireOrder) (P : Program) :
    encodeProgram wo P = recordBytes (P.flatMap fun i => i.encode wo) :=
  List.flatMap_assoc.symm

/-- Settles O10: the 8 bytes from `8 * k` on are the first ones once the `k` records before are left out. -/
theorem recordKOccupiesItsEightBytes : Obligations.RecordKOccupiesItsEightBytes := by
  intro wo P
  rw [encodeProgram_eq_recordBytes]
  refine ⟨recordBytes_length _, fun k r h => ?_⟩
  obtain ⟨hk, rfl⟩ := List.getElem?_eq_some_iff.1 h
  rw [drop_recordBytes, List.drop_eq_getElem_cons hk, recordBytes_cons, List.take_left' (bytes_length _)]

/-- Eight bytes or more start with a record (R50). -/
theorem exists_eq_bytes_append {bs : List Byte} (h : 8 ≤ bs.length) : ∃ r rest, bs = Record.bytes r ++ rest := by
  refine ⟨⟨bs[0], bs[1], bs[2], bs[3], bs[4], bs[5], bs[6], bs[7]⟩, bs.drop 8, ?_⟩
  simp only [Record.bytes, List.cons_append, List.nil_append, List.getElem_cons_drop, List.drop_zero]

/-- A whole number of records' worth of bytes is those records laid back to back (R55). -/
theorem exists_eq_recordBytes (n : Nat) {bs : List Byte} (h : bs.length = 8 * n) : ∃ rs, bs = recordBytes rs := by
  induction n generalizing bs with
  | zero => exact ⟨[], List.length_eq_zero_iff.1 h⟩
  | succ n ih =>
    obtain ⟨r, rest, rfl⟩ := exists_eq_bytes_append (bs := bs) (by omega)
    rw [List.length_append, bytes_length] at h
    obtain ⟨rs, rfl⟩ := ih (bs := rest) (by omega)
    exact ⟨r :: rs, rfl⟩

/-- The bytes that are at least one record laid back to back (R50, R55). -/
theorem exists_eq_recordBytes_cons_iff (bs : List Byte) :
    (∃ r rs, bs = recordBytes (r :: rs)) ↔ bs ≠ [] ∧ bs.length % 8 = 0 := by
  constructor
  · rintro ⟨r, rs, rfl⟩
    exact ⟨List.cons_ne_nil _ _, by simp⟩
  · rintro ⟨hne, hlen⟩
    obtain ⟨rs, rfl⟩ := exists_eq_recordBytes (bs.length / 8) (by omega : bs.length = _)
    cases rs with
    | nil => exact absurd rfl hne
    | cons r rs => exact ⟨r, rs, rfl⟩

end Sys2Proof
end

section
/-! PROOFS. The instruction read from wire bytes has those wire bytes (20_memory.md R50, R55; 41_encoder.md R140). -/

namespace Sys2Proof

/-- A record is the encoding of the node read from it (R140). -/
@[simp] theorem encodeRecord_nodeOfRecord (wo : WireOrder) (r : Record) :
    encodeRecord wo (.last (nodeOfRecord wo r)) = r := by
  simp [encodeRecord, nodeOfRecord, Instruction.opcode, Instruction.dst, Instruction.src, Instruction.off,
    Instruction.imm, Instruction.node, pack_unpack]

theorem nodeFits_nodeOfRecord (wo : WireOrder) (r : Record) : nodeFits (nodeOfRecord wo r) = true := by
  have hnib (v : BitVec 4) : (v.setWidth 8).toNat < 16 := by
    rw [BitVec.toNat_setWidth_of_le (by decide)]
    exact v.isLt
  simp only [nodeFits, nodeOfRecord, hnib, decide_true, Bool.and_self]

/-- A chain has the nodes it is made from, in order (R24). -/
theorem map_node_chain_chainOfNodes (n : Node) (ns : List Node) :
    (chainOfNodes n ns).chain.map Instruction.node = n :: ns := by
  induction ns generalizing n with
  | nil => rfl
  | cons m ms ih => exact congrArg (n :: ·) (ih m)

/-- Encoding reads the nodes of the chain alone (R134, R136). -/
theorem encode_eq_map_node (wo : WireOrder) (x : Instruction) :
    x.encode wo = (x.chain.map Instruction.node).map fun n => encodeRecord wo (.last n) := by
  rw [Instruction.encode, List.map_map]
  rfl

theorem fits_eq_all_node (x : Instruction) : x.fits = (x.chain.map Instruction.node).all nodeFits := by
  rw [Instruction.fits, List.all_map]
  rfl

/-- The descriptor that a consumer reads from records: a chain of their nodes (R136, R140). -/
def instructionOfRecords (wo : WireOrder) (r : Record) (rs : List Record) : Instruction :=
  chainOfNodes (nodeOfRecord wo r) (rs.map (nodeOfRecord wo))

theorem map_node_chain_instructionOfRecords (wo : WireOrder) (r : Record) (rs : List Record) :
    (instructionOfRecords wo r rs).chain.map Instruction.node = (r :: rs).map (nodeOfRecord wo) :=
  map_node_chain_chainOfNodes _ _

/-- What is read from records encodes to them (R140). -/
theorem encode_instructionOfRecords (wo : WireOrder) (r : Record) (rs : List Record) :
    (instructionOfRecords wo r rs).encode wo = r :: rs := by
  rw [encode_eq_map_node, map_node_chain_instructionOfRecords, List.map_map]
  exact List.map_id'' (encodeRecord_nodeOfRecord wo) _

theorem fits_instructionOfRecords (wo : WireOrder) (r : Record) (rs : List Record) :
    (instructionOfRecords wo r rs).fits = true := by
  rw [fits_eq_all_node, map_node_chain_instructionOfRecords, List.all_map, List.all_eq_true]
  exact fun q _ => nodeFits_nodeOfRecord wo q

/-- A descriptor of a two-record shape is taken as that row, so what it is taken as is canonical (log entry 12). -/
theorem canonical_ofInstruction (x : Instruction) : (ofInstruction x).canonical = true := by
  rw [Instr.canonical, toInstruction_ofInstruction]
  cases h : twoRecordRow x with
  | none => rfl
  | some j => simp [ofInstruction, h]

/-- Records laid back to back decode to the instruction read from them. -/
theorem decode_recordBytes_cons (wo : WireOrder) (r : Record) (rs : List Record) :
    decode wo (recordBytes (r :: rs)) = .ok (ofInstruction (instructionOfRecords wo r rs)) := by
  simp only [decode, instructionOfBytes, recordsOfBytes_recordBytes, instructionOfRecords]

/-- The bytes that decode are records laid back to back, at least one. -/
theorem exists_eq_recordBytes_cons_of_decode {wo : WireOrder} {bs : List Byte} {i : Instr} (h : decode wo bs = .ok i) :
    ∃ r rs, bs = recordBytes (r :: rs) := by
  cases hrs : recordsOfBytes bs with
  | error e => simp [decode, instructionOfBytes, hrs] at h
  | ok rs =>
    cases rs with
    | nil => simp [decode, instructionOfBytes, hrs] at h
    | cons r rs => exact ⟨r, rs, (recordBytes_of_recordsOfBytes hrs).symm⟩

/-- What is read from records has them as its wire bytes, and they determine it (R140). -/
theorem encode_and_wellFormed_of_records (wo : WireOrder) (r : Record) (rs : List Record) :
    encode wo (ofInstruction (instructionOfRecords wo r rs)) = recordBytes (r :: rs) ∧
    (ofInstruction (instructionOfRecords wo r rs)).wellFormed = true := by
  rw [encode, Instr.wellFormed, canonical_ofInstruction, toInstruction_ofInstruction, encode_instructionOfRecords,
    fits_instructionOfRecords]
  exact ⟨rfl, rfl⟩

/-- Settles O37: bytes that decode are records, and the chain read from records encodes to them and fits. -/
theorem encodeInvertsDecode : Obligations.EncodeInvertsDecode := by
  intro wo bs
  constructor
  · intro i h
    obtain ⟨r, rs, rfl⟩ := exists_eq_recordBytes_cons_of_decode h
    obtain rfl : _ = i := Except.ok.inj ((decode_recordBytes_cons wo r rs).symm.trans h)
    exact encode_and_wellFormed_of_records wo r rs
  · rw [← exists_eq_recordBytes_cons_iff]
    constructor
    · rintro ⟨i, h⟩
      exact exists_eq_recordBytes_cons_of_decode h
    · rintro ⟨r, rs, rfl⟩
      exact ⟨_, decode_recordBytes_cons wo r rs⟩

end Sys2Proof
end

section
/-! PROOFS. What a step can do, and what it keeps of a right state (20_memory.md section 6). -/

namespace Sys2Proof.Machine

/-- All that a step can do: nothing, or present the descriptor that the next call builds. -/
theorem step_cases {s t : State} (h : step s = .next t) :
    (s.input = [] ∧ t = s) ∨
    ∃ c rest, s.input = c :: rest ∧ t = ({ s with input := rest } : State).presentDecoded c.build := by
  cases hin : s.input with
  | nil =>
    rw [step_of_no_input hin] at h
    exact .inl ⟨rfl, (Host.Outcome.next.inj h).symm⟩
  | cons c rest =>
    rw [step_eq_presentDecoded hin] at h
    exact .inr ⟨c, rest, rfl, (Host.Outcome.next.inj h).symm⟩

/-- Settles O53: the one descriptor that a step presents keeps consistency. -/
theorem stepKeepsConsistency : Obligations.StepKeepsConsistency := by
  intro s t hs h
  obtain ⟨-, rfl⟩ | ⟨c, rest, -, rfl⟩ := step_cases h
  · exact hs
  · exact (hs.withInput rest).presentDecoded c.build

/-- Settles O54: all that a step does to the stream is to store bytes in it. -/
theorem stepKeepsStreamCanonical : Obligations.StepKeepsStreamCanonical := by
  intro s t hs h
  obtain ⟨-, rfl⟩ | ⟨c, rest, -, rfl⟩ := step_cases h
  · exact hs
  · exact Memory.writeBytes_wf _ _ hs

/-- The stream of a consistent state reads as the encoding of its program (R55). -/
theorem State.Consistent.read_stream {s : State} (hs : s.Consistent) (a : Nat) :
    s.stream.read a = (encodeProgram Config.wireOrder s.program)[a]? := by
  have hread := read_cellsFrom 0 (encodeProgram Config.wireOrder s.program) a
  rwa [Nat.zero_add, ← hs.stream_eq] at hread

/-- The records stored by a step stand past the encoding of the program held (R55). -/
theorem read_stream_step {s t : State} (h : step s = .next t) {a : Nat}
    (ha : a < (encodeProgram Config.wireOrder s.program).length) : t.stream.read a = s.stream.read a := by
  obtain ⟨-, rfl⟩ | ⟨c, rest, -, rfl⟩ := step_cases h
  · rfl
  · rw [← nextOffset_eq_encodeProgram_length] at ha
    exact read_presentDecoded_outside { s with input := rest } c.build (.inl ha)

/-- A step only appends to the program (R26, R27). -/
theorem program_step {s t : State} (h : step s = .next t) : ∃ Q, t.program = s.program ++ Q := by
  obtain ⟨-, rfl⟩ | ⟨c, rest, -, rfl⟩ := step_cases h
  · exact ⟨[], (List.append_nil _).symm⟩
  · exact ⟨[c.build], rfl⟩

/-- Settles O55: a step stores past the bytes already there. -/
theorem earlierBytesNeverChange : Obligations.EarlierBytesNeverChange := by
  intro s t hs h
  refine ⟨fun a ha => ?_, program_step h⟩
  have hkept : t.stream.read a = s.stream.read a := read_stream_step h ha
  exact ⟨hkept.trans (hs.read_stream a), hkept⟩

end Sys2Proof.Machine
end

section
/-! PROOFS. A canonical instruction of the table is the one that its descriptor is taken as (30_encoding.md R78 to R80). -/

namespace Sys2Proof

/-- Written as its descriptor and read back, a canonical instruction is itself: the model's law for each row. The rows not
named here have one opcode byte each, and it is not the 64-bit load's. -/
theorem ofInstruction_toInstruction {i : Instr} : i.canonical = true → ofInstruction i.toInstruction = i := by
  change Laws.RowRoundTrip.Statement i
  cases i with
  | ldImmDW o => exact Laws.RowRoundTrip.ldImmDW o
  | endian w k o => exact Laws.RowRoundTrip.endian w k o
  | call k o => exact Laws.RowRoundTrip.call k o
  | exit k o => exact Laws.RowRoundTrip.exit k o
  | unrecognizedJmp n k o => exact Laws.RowRoundTrip.unrecognizedJmp n k o
  | unrecognizedLs c z o => exact Laws.RowRoundTrip.unrecognizedLs c z o
  | unrecognizedAlu w n k o => exact Laws.RowRoundTrip.unrecognizedAlu w n k o
  | loadImmediate64 dst imm64 => exact Laws.RowRoundTrip.loadImmediate64 dst imm64
  | loadMapFd dst fd => exact Laws.RowRoundTrip.loadMapFd dst fd
  | _ o => exact Laws.RowRoundTrip.row _ o (by decide) rfl rfl

/-- Settles O35: `ofInstruction` inverts `toInstruction` on the canonical instructions, and is inverted by it everywhere. -/
theorem everyDescriptorIsAnInstruction : Obligations.EveryDescriptorIsAnInstruction := by
  refine ⟨fun x => ⟨toInstruction_ofInstruction x, canonical_ofInstruction x⟩, fun i j hi hj h => ?_⟩
  calc i = ofInstruction i.toInstruction := (ofInstruction_toInstruction hi).symm
    _ = ofInstruction j.toInstruction := by rw [h]
    _ = j := ofInstruction_toInstruction hj

/-- A table word decodes to the instruction that the descriptor in its bytes is. -/
theorem decodeTableWord_eq_some_iff (nbits w : Nat) (i : Instr) :
    decodeTableWord nbits w = some i ↔
      ∃ x, instructionOfBytes .little (bytesOfTableWord nbits w) = .ok x ∧ ofInstruction x = i := by
  cases h : instructionOfBytes .little (bytesOfTableWord nbits w) <;> simp [decodeTableWord, decode, h]

/-- Settles O38: each word is cut into its records, read in its byte order, and looked up in the opcode map. -/
theorem specWordsDecode : Obligations.SpecWordsDecode :=
  ⟨rfl, rfl, rfl, rfl, rfl, rfl, rfl, rfl, rfl, rfl, rfl, rfl⟩

end Sys2Proof
end

section
/-! PROOFS. The opcode byte: its fields, their values and tokens, its mnemonic, and the bytes without a named constant
(30_encoding.md sections 1 to 5). -/

namespace Sys2Proof.Machine

/-- The load/store fields of a byte compose it again (R71, R78). -/
@[simp] theorem lsCompose_fields (op : Byte) : lsCompose (modeField op) (sizeField op) (clsField op) = op := by
  revert op
  decide

/-- The operation fields of a byte compose it again (R71, R78). -/
@[simp] theorem opCompose_fields (op : Byte) : opCompose (aopField op) (skField op) (clsField op) = op := by
  revert op
  decide

/-- Settles O18: the converse of reading each field of a composed byte. -/
theorem opcodeFieldsPartitionTheByte : Obligations.OpcodeFieldsPartitionTheByte :=
  fun op => ⟨lsCompose_fields op, opCompose_fields op⟩

/-- Settles O57: each table row by evaluation. -/
theorem fieldValuesAndTokensAreTheTables : Obligations.FieldValuesAndTokensAreTheTables :=
  ⟨rfl, rfl, rfl, rfl, rfl, rfl, rfl, rfl, rfl, rfl, rfl, rfl⟩

/-- Settles O22: the descriptor is that of the byte alone, so each of the 256 bytes has one answer to compare. -/
theorem fallbackBytesAreTheListedForty : Obligations.FallbackBytesAreTheListedForty := by
  unfold Obligations.FallbackBytesAreTheListedForty
  decide

/-- A Call carries its immediate, and its mnemonic does not show it (R80, R172). -/
theorem opcodeMnemonic_classifyJmp (op : Byte) (imm imm' : Imm) :
    opcodeMnemonic (classifyJmp op imm).1 = opcodeMnemonic (classifyJmp op imm').1 := by
  simp only [classifyJmp]
  cases jmpEntryOf (aopField op) with
  | none => rfl
  | some e => cases e <;> rfl

/-- The mnemonic is a function of the opcode byte alone (R80). -/
theorem opcodeMnemonic_classify_eq_buildOp (i : Instruction) :
    opcodeMnemonic (classify i).1 = opcodeMnemonic (classify (buildOp i.opcode)).1 := by
  have hop : (buildOp i.opcode).opcode = i.opcode := rfl
  simp only [classify, hop]
  cases classOf (clsField i.opcode) with
  | ls c => rfl
  | alu w => rfl
  | jmp => exact opcodeMnemonic_classifyJmp i.opcode _ _

/-- Settles O58: the mnemonic reads the opcode byte alone, and each of the 256 bytes has the entry written out. -/
theorem opcodeMapGivesTheMnemonics : Obligations.OpcodeMapGivesTheMnemonics := by
  intro i
  rw [opcodeMnemonic_classify_eq_buildOp]
  generalize i.opcode = op
  revert op
  decide

end Sys2Proof.Machine
end

section
/-! PROOFS. Running an instruction to its end, written out by the block's outputs, and running the next one presented
(30_encoding.md R81, R89). -/

namespace Sys2Proof.Machine

/-- The state after a descriptor was presented, as `State.after` writes it out: `byteOffset` is `8 × recIndex` (R28). -/
theorem presented_eq_after (s : State) (x : Instruction) (d : Decoded) (a : Ann) :
    s.presented x d a =
      s.after x (renderLine Config.helperName x d a) d a (fallbackOf Config.helperName d) := rfl

/-- What an instruction leaves where its descriptor decodes to `d` with annotations `a`. -/
theorem exec_eq_after {i : Instr} {d : Decoded} {a : Ann} (h : classify i.toInstruction = (d, a)) (s : State) :
    exec i s = .next (s.after i.toInstruction (renderLine Config.helperName i.toInstruction d a) d a
      (fallbackOf Config.helperName d)) := by
  rw [exec_eq_presentDecoded, State.presentDecoded, h, presented_eq_after]

/-- The line of every fallback (R208, D14). -/
theorem renderLine_unrecognized (ht : HelperTable) (x : Instruction) (g : Group) :
    renderLine ht x (.unrecognized g) annNone = "op: unrecognized opcode" := rfl

/-- What an instruction leaves where its descriptor decodes to a group's fallback (R175). -/
theorem exec_eq_after_of_unrecognized {i : Instr} {g : Group}
    (h : classify i.toInstruction = (.unrecognized g, annNone)) (s : State) :
    exec i s = .next (s.after i.toInstruction "op: unrecognized opcode" (.unrecognized g) annNone
      (fallbackOf Config.helperName (.unrecognized g))) := by
  rw [exec_eq_after h, renderLine_unrecognized]

/-- Settles O44: each fallback row decodes to its group's fallback. -/
theorem fallbackRowsRun : Obligations.FallbackRowsRun := by
  refine fun o s => ⟨fun c z => ?_, fun w n k => ?_, fun n k => ?_⟩
  · exact exec_eq_after_of_unrecognized (i := .unrecognizedLs c z o) (classify_unnamedLsRow c z o) s
  · exact exec_eq_after_of_unrecognized (i := .unrecognizedAlu w n k o) (classify_unnamedAluRow w n k o) s
  · exact exec_eq_after_of_unrecognized (i := .unrecognizedJmp n k o) (classify_unnamedJmpRow n k o) s

/-- The descriptor in the bytes of a table word is put before the calls waiting (log entry 3). -/
theorem withFetchWord_of_ok {nbits w : Nat} {x : Instruction}
    (h : instructionOfBytes .little (bytesOfTableWord nbits w) = .ok x) (s : State) :
    s.withFetchWord nbits w = { s with input := .given x :: s.input } := by
  simp only [State.withFetchWord, h]

/-- Settles O50: a given descriptor is built verbatim, and a table word presents the descriptor it decodes through. -/
theorem stepRunsThePresentedInstruction : Obligations.StepRunsThePresentedInstruction := by
  refine ⟨fun s c rest hin => step_of_input hin, fun s i rest hi hin => ?_, fun s nbits w i hw => ?_⟩
  · calc step s = exec (ofInstruction i.toInstruction) { s with input := rest } := step_of_input hin
      _ = exec i { s with input := rest } := by rw [ofInstruction_toInstruction hi]
  · obtain ⟨x, hx, rfl⟩ := (decodeTableWord_eq_some_iff nbits w i).1 hw
    calc step (s.withFetchWord nbits w) = step { s with input := .given x :: s.input } := by
          rw [withFetchWord_of_ok hx]
      _ = exec (ofInstruction x) s := step_of_input (c := .given x) rfl

end Sys2Proof.Machine
end

section
/-! PROOFS. What the builder's forms build (40_builder.md sections 2 and 3). -/

namespace Sys2Proof

/-- Settles O12: each form is `single` with 0 for the fields that it does not take. -/
theorem shapeConstructorsSetTheirFields : Obligations.ShapeConstructorsSetTheirFields :=
  fun _ _ _ _ _ => ⟨rfl, rfl, rfl, rfl, rfl, rfl, rfl, rfl, rfl⟩

/-- Settles O14: the two halves of the split put together again. -/
theorem loadImmediate64SplitsOnBits : Obligations.LoadImmediate64SplitsOnBits :=
  fun _ imm64 => ⟨rfl, assembleImm64_extract imm64⟩

theorem assembleImm64_zero (fd : BitVec 32) : assembleImm64 fd 0 = fd.setWidth 64 :=
  (BitVec.setWidth_eq_append (by decide)).symm

/-- A 32-bit value widened with zeros splits into itself and 0 (D8). -/
theorem buildLoadImmediate64_setWidth (dst : Reg) (fd : BitVec 32) :
    buildLoadImmediate64 dst (fd.setWidth 64) = .linked ⟨lddwOpcode, dst, 0, 0, fd⟩ (continuation 0) := by
  rw [← assembleImm64_zero, buildLoadImmediate64, lowHalf_assembleImm64, highHalf_assembleImm64]

/-- Settles O15: `load-immediate64` of the widened `fd` has the nodes of `load-map-fd` but for the source. -/
theorem loadMapFdIsTheSameShapeWithSourceOne : Obligations.LoadMapFdIsTheSameShapeWithSourceOne := by
  refine fun dst fd => ⟨rfl, fun n c h => ?_⟩
  obtain ⟨rfl, rfl⟩ := Instruction.linked.inj ((buildLoadImmediate64_setWidth dst fd).symm.trans h)
  rfl

/-- A source of 1 sets the lowest bit of the high nibble, where a source of 0 sets none (R132). -/
theorem pack_one_eq_or_pack_zero (dst : Reg) : pack dst 1 = 0x10 ||| pack dst 0 := by
  calc pack dst 1 = (dst &&& 0x0F) ||| 0x10 := rfl
    _ = 0x10 ||| (dst &&& 0x0F) := BitVec.or_comm _ _
    _ = 0x10 ||| pack dst 0 := congrArg (0x10 ||| ·) BitVec.or_zero.symm

/-- Settles O16: the two forms have the same nodes but for the source, which a record holds in byte 1 alone. -/
theorem sourceNibbleIsTheSoleDiscriminator : Obligations.SourceNibbleIsTheSoleDiscriminator := by
  intro wo dst fd
  refine ⟨encodeRecord wo (.last ⟨lddwOpcode, dst, 0, 0, fd⟩), encodeRecord wo (continuation 0), ?_, ?_, ?_, ?_⟩
  · exact congrArg (Instruction.encode wo) (buildLoadImmediate64_setWidth dst fd)
  · change _ = [{ encodeRecord wo (.last ⟨lddwOpcode, dst, 0, 0, fd⟩) with b1 := 0x10 ||| pack dst 0 }, _]
    rw [← pack_one_eq_or_pack_zero]
    rfl
  · exact congrArg Prod.snd (unpack_pack dst 0)
  · change (unpack (0x10 ||| pack dst 0)).2 = 1
    rw [← pack_one_eq_or_pack_zero, unpack_pack]
    rfl

/-- Settles O17: the other forms build a single node. -/
theorem builderChainsHaveLengthOneOrTwo : Obligations.BuilderChainsHaveLengthOneOrTwo := by
  intro c hgiven
  cases c with
  | given i => exact absurd rfl (hgiven i)
  | loadImmediate64 dst imm64 => exact (if_pos (.inl ⟨dst, imm64, rfl⟩)).symm
  | loadMapFd dst fd => exact (if_pos (.inr ⟨dst, fd, rfl⟩)).symm
  | _ => exact (if_neg (by simp)).symm

end Sys2Proof
end

section
/-! PROOFS. The two-record instructions run to their end (40_builder.md R111, R112). -/

namespace Sys2Proof.Machine

/-- The line of every descriptor that decodes to the 64-bit immediate load (R202, R209). -/
theorem renderLine_ldImmDW (ht : HelperTable) (x : Instruction) :
    renderLine ht x (.ls .ld .imm .dw false) (annLS .imm) =
      "op: LdImmDW dst: " ++ display x.dst ++ (" src: " ++ display x.src ++ " off: " ++ dec x.off.toInt ++ " imm: ")
        ++ dec x.imm.toInt := by
  have hop : "op: " ++ opcodeMnemonic (.ls .ld .imm .dw false) ++ " dst: " = "op: LdImmDW dst: " := by decide
  rw [← hop]
  simp [renderLine, mnem, annText, annLS, String.append_assoc]

/-- What an instruction leaves where its descriptor decodes to the 64-bit immediate load; the line shows the first node
alone (R210), and the continuation stands below it in the listing (R212). -/
theorem exec_eq_after_of_ldImmDW {i : Instr} (h : classify i.toInstruction = (.ls .ld .imm .dw false, annLS .imm))
    (s : State) :
    exec i s = .next (s.after i.toInstruction
      ("op: LdImmDW dst: " ++ display i.toInstruction.dst
        ++ (" src: " ++ display i.toInstruction.src ++ " off: " ++ dec i.toInstruction.off.toInt ++ " imm: ")
        ++ dec i.toInstruction.imm.toInt)
      (.ls .ld .imm .dw false) (annLS .imm) none) := by
  rw [exec_eq_after h, renderLine_ldImmDW]
  rfl

/-- Settles O45: both descriptors decode to the 64-bit immediate load, and the text of their sources and offsets is
computed from the fields that R111 and R112 fix. -/
theorem twoRecordInstructionsRun : Obligations.TwoRecordInstructionsRun := by
  refine fun dst s => ⟨fun imm64 => ?_, fun fd => ?_⟩
  · have hshown : " src: " ++ display 0 ++ " off: " ++ dec (0 : Off).toInt ++ " imm: " = " src: r0 off: 0 imm: " := by
      decide
    rw [← hshown]
    exact exec_eq_after_of_ldImmDW (i := .loadImmediate64 dst imm64) (classify_loadImmediate64 dst imm64) s
  · have hshown : " src: " ++ display 1 ++ " off: " ++ dec (0 : Off).toInt ++ " imm: " = " src: r1 off: 0 imm: " := by
      decide
    rw [← hshown]
    exact exec_eq_after_of_ldImmDW (i := .loadMapFd dst fd) (classify_loadMapFd dst fd) s

end Sys2Proof.Machine
end

section
/-! PROOFS. A descriptor that encoding loses nothing of is read back from its own records (41_encoder.md R140). -/

namespace Sys2Proof

/-- What a record holds of its node: everything but the register bits above bit 3 (R140). -/
theorem nodeOfRecord_encodeRecord (wo : WireOrder) (x : Instruction) :
    nodeOfRecord wo (encodeRecord wo x) =
      { opcode := x.opcode, dst := (nib x.dst).setWidth 8, src := (nib x.src).setWidth 8, off := x.off
        imm := x.imm } := by
  simp [nodeOfRecord, encodeRecord, unpack_pack]

/-- A register below 16 is its low nibble (R131). -/
theorem setWidth_nib_of_lt {r : Reg} (h : r.toNat < 16) : (nib r).setWidth 8 = r := by
  apply BitVec.eq_of_toNat_eq
  rw [BitVec.toNat_setWidth_of_le (by decide), nib, BitVec.extractLsb'_toNat, Nat.shiftRight_zero, Nat.mod_eq_of_lt h]

/-- A node whose registers fit is read back whole (R140). -/
theorem nodeOfRecord_encodeRecord_of_nodeFits (wo : WireOrder) {x : Instruction} (h : nodeFits x.node = true) :
    nodeOfRecord wo (encodeRecord wo x) = x.node := by
  obtain ⟨hdst, hsrc⟩ : x.dst.toNat < 16 ∧ x.src.toNat < 16 := by
    simpa [nodeFits, Instruction.dst, Instruction.src] using h
  rw [nodeOfRecord_encodeRecord, setWidth_nib_of_lt hdst, setWidth_nib_of_lt hsrc]
  rfl

/-- A descriptor is the chain made from its nodes (R24). -/
theorem chainOfNodes_map_node_tail (x : Instruction) : chainOfNodes x.node (x.chain.tail.map Instruction.node) = x := by
  induction x with
  | last n => rfl
  | linked n c ih =>
    have htail : (Instruction.linked n c).chain.tail = c :: c.chain.tail := chain_eq_cons c
    rw [htail]
    exact congrArg (Instruction.linked n) ih

theorem encode_eq_cons (wo : WireOrder) (x : Instruction) :
    x.encode wo = encodeRecord wo x :: x.chain.tail.map (encodeRecord wo) := by
  rw [Instruction.encode, chain_eq_cons, List.map_cons, List.tail_cons]

/-- Read back from its records, a descriptor whose registers fit is itself (R136, R140). -/
theorem instructionOfRecords_encode (wo : WireOrder) {x : Instruction} (h : x.fits = true) :
    instructionOfRecords wo (encodeRecord wo x) (x.chain.tail.map (encodeRecord wo)) = x := by
  rw [Instruction.fits, chain_eq_cons, List.all_cons, Bool.and_eq_true, List.all_eq_true] at h
  obtain ⟨hfirst, hrest⟩ := h
  have hnodes : (x.chain.tail.map (encodeRecord wo)).map (nodeOfRecord wo) = x.chain.tail.map Instruction.node := by
    rw [List.map_map]
    exact List.map_congr_left fun c hc => nodeOfRecord_encodeRecord_of_nodeFits wo (hrest c hc)
  rw [instructionOfRecords, nodeOfRecord_encodeRecord_of_nodeFits wo hfirst, hnodes, chainOfNodes_map_node_tail]

/-- Settles O36: the descriptor of a well-formed instruction is read back whole, and it is taken as that instruction. -/
theorem decodeInvertsEncode : Obligations.DecodeInvertsEncode := by
  intro wo i h
  obtain ⟨hcanonical, hfits⟩ : i.canonical = true ∧ i.toInstruction.fits = true := by
    simpa [Instr.wellFormed] using h
  rw [encode, encode_eq_cons, decode_recordBytes_cons, instructionOfRecords_encode wo hfits,
    ofInstruction_toInstruction hcanonical]

/-- Settles O7: the register byte gives the two low nibbles back, the other fields are copied. -/
theorem recordLosesOnlyHighRegisterBits : Obligations.RecordLosesOnlyHighRegisterBits := nodeOfRecord_encodeRecord

end Sys2Proof
end

section
/-! PROOFS. The register pair (41_encoder.md R131 to R133). -/

namespace Sys2Proof

/-- The source's nibble stands above the destination's (R132). -/
theorem pack_eq_append (d s : Reg) : pack d s = nib s ++ nib d := by
  obtain ⟨hdst, hsrc⟩ := Prod.mk.inj (unpack_pack d s)
  rw [← hdst, ← hsrc, highNibble_append_lowNibble]

/-- The bits that a shift in 8 bits loses are those that a shift in 16 bits and the cut to 8 lose (R132). -/
theorem pack_eq_setWidth_widened (d s : Reg) :
    pack d s = ((d.setWidth 16 &&& 0x0F) ||| (s.setWidth 16 <<< 4)).setWidth 8 := by
  apply BitVec.eq_of_getLsbD_eq
  intro i hi
  simp [pack, hi]

theorem nib_setWidth (v : BitVec 4) : nib (v.setWidth 8) = v := by
  revert v
  decide

/-- Settles O1: four bits are the remainder modulo 16. -/
theorem nibKeepsLowFourBits : Obligations.NibKeepsLowFourBits :=
  ⟨fun r => BitVec.extractLsb'_toNat 0 4 r, rfl, rfl, rfl, rfl⟩

/-- Settles O2: the nibbles of the packed byte are those that `unpack` gives back. -/
theorem packHoldsBothNibbles : Obligations.PackHoldsBothNibbles := by
  refine ⟨fun d s => ?_, rfl, rfl, rfl, rfl, rfl, rfl, rfl, rfl, rfl⟩
  obtain ⟨hdst, hsrc⟩ := Prod.mk.inj (unpack_pack d s)
  exact ⟨pack_eq_append d s, hdst, hsrc, pack_eq_setWidth_widened d s⟩

/-- Settles O3: `nib` changes no value of 4 bits. -/
theorem unpackInvertsPack : Obligations.UnpackInvertsPack := by
  refine ⟨fun _ => rfl, unpack_pack, fun d s => ?_, pack_unpack⟩
  rw [unpack_pack, nib_setWidth, nib_setWidth]

end Sys2Proof
end

section
/-! PROOFS. One record, the chain's records, and the program's stream (41_encoder.md R134 to R139). -/

namespace Sys2Proof

/-- The record of a descriptor is that of its first node (R134). -/
theorem encodeRecord_eq_node (wo : WireOrder) (x : Instruction) : encodeRecord wo x = encodeRecord wo (.last x.node) :=
  rfl

theorem node_withOpcode (op : Byte) (o : Operands) :
    (o.withOpcode op).node = { opcode := op, dst := o.dst, src := o.src, off := o.off, imm := o.imm } :=
  node_instructionOf _ _

/-- Settles O4: the fields of `encodeRecord`, `ser16` and `ser32` written out. -/
theorem recordLayout : Obligations.RecordLayout :=
  ⟨fun _ => rfl, fun _ => rfl, fun wo n c => encodeRecord_eq_node wo (.linked n c)⟩

/-- Settles O6: the two nodes differ in the opcode, which byte 0 copies and no other byte reads. -/
theorem encoderDoesNotClassify : Obligations.EncoderDoesNotClassify := by
  intro wo op op' o
  rw [encodeRecord_eq_node wo (o.withOpcode op'), encodeRecord_eq_node wo (o.withOpcode op), node_withOpcode,
    node_withOpcode]
  rfl

/-- Settles O8: the two cases of the chain. -/
theorem encodeWalksTheChain : Obligations.EncodeWalksTheChain := by
  intro wo i
  cases i with
  | last n => exact ⟨fun _ => rfl, fun _ hc => nomatch hc⟩
  | linked n c =>
    refine ⟨fun hnone => (nomatch hnone), fun c' hc => ?_⟩
    obtain rfl : c = c' := Option.some.inj hc
    rfl

/-- An instruction's bytes are those of each node's record in chain order (R136). -/
theorem recordBytes_encode (wo : WireOrder) (i : Instruction) :
    recordBytes (i.encode wo) = (i.chain.map fun c => (encodeRecord wo c).bytes).flatten := by
  rw [recordBytes, Instruction.encode, List.flatMap_map, List.flatMap_def]

/-- Settles O9: an appended instruction's records stand behind the stream, and each record is 8 bytes. -/
theorem programStreamIsConcatenation : Obligations.ProgramStreamIsConcatenation := by
  refine fun wo => ⟨rfl, fun P i => ?_, fun i => ?_, fun P => ?_⟩
  · rw [append, encodeProgram_append, encodeProgram_singleton, recordBytes_encode]
  · rw [recordBytes_length, encode_length]
  · rw [encodeProgram_length_eq_byteOffset, byteOffset, recIndex_length]

/-- A descriptor without a continuation has one record, and its byte 0 is the opcode (R134, R136). -/
theorem exists_record_of_last (wo : WireOrder) (n : Node) :
    ∃ r, (Instruction.last n).encode wo = [r] ∧ r.b0 = n.opcode :=
  ⟨encodeRecord wo (.last n), rfl, rfl⟩

/-- Settles O13: every shape builds one node with the opcode supplied. -/
theorem shapeConstructorsGiveOneRecord : Obligations.ShapeConstructorsGiveOneRecord := by
  intro wo op dst src off imm
  rw [← List.forall_iff_forall_mem]
  and_intros <;> exact exists_record_of_last wo _

end Sys2Proof
end

section
/-! PROOFS. The decoder's answer for a descriptor, told by its opcode byte (42_decoder.md sections 2 to 5). -/

namespace Sys2Proof

/-- A descriptor is the row of its own opcode byte, with its other fields as operands (R23). -/
theorem eq_withOpcode_operands {i : Instruction} {op : Byte} (h : i.opcode = op) : i = i.operands.withOpcode op :=
  h ▸ (withOpcode_operands i).symm

namespace Machine

/-! ## The annotation sets as the rules list them -/

theorem annLS_eq_ite (m : Mode) :
    annLS m = if m = .abs ∨ m = .ind then ⟨false, true, false, true⟩ else ⟨true, true, true, true⟩ := by
  cases m <;> rfl

theorem annAlu_eq_ite (k : SK) :
    annAlu k = if k = .imm then ⟨true, false, false, true⟩ else ⟨true, true, false, false⟩ := by
  cases k <;> rfl

theorem annJmp_eq_ite (k : SK) :
    annJmp k = if k = .imm then ⟨true, false, true, true⟩ else ⟨true, true, true, false⟩ := by
  cases k <;> rfl

/-! ## Every descriptor of an opcode byte is a row of that byte -/

theorem classify_of_opcode {i : Instruction} {op : Byte} {r : Decoded × Ann} (h : i.opcode = op)
    (hrow : classify (i.operands.withOpcode op) = r) : classify i = r :=
  (congrArg classify (eq_withOpcode_operands h)).trans hrow

theorem classify_of_lsOpcode {i : Instruction} {c : LSClass} {m : Mode} {z : Size} (h : i.opcode = lsOpcode c m z) :
    classify i = (.ls c m z (decide (m = .xAdd)), annLS m) :=
  classify_of_opcode h (classify_lsRow c m z i.operands)

theorem classify_of_aluOpcode {i : Instruction} {w : Width} {a : AluOp} {k : SK} (h : i.opcode = aluOpcode w a k) :
    classify i = (.alu w a k, annAlu k) :=
  classify_of_opcode h (classify_aluRow w a k i.operands)

theorem classify_of_endianOpcode {i : Instruction} {w : Width} {k : SK} (h : i.opcode = endianOpcode w k) :
    classify i = (.endian w k, annEndian) :=
  classify_of_opcode h (classify_endianRow w k i.operands)

theorem classify_of_jmpOpcode {i : Instruction} {j : JmpOp} {k : SK} (h : i.opcode = jmpOpcode j k) :
    classify i = (.jmp j k, annJmp k) :=
  classify_of_opcode h (classify_jmpRow j k i.operands)

theorem classify_of_callOpcode {i : Instruction} {k : SK} (h : i.opcode = callOpcode k) :
    classify i = (.call i.imm, annNone) :=
  classify_of_opcode h (classify_callRow k i.operands)

theorem classify_of_exitOpcode {i : Instruction} {k : SK} (h : i.opcode = exitOpcode k) :
    classify i = (.exit, annNone) :=
  classify_of_opcode h (classify_exitRow k i.operands)

/-- Settles O19: the two forms of load/store row, the annotation set written out. -/
theorem loadStoreGroupDecodes : Obligations.LoadStoreGroupDecodes := by
  refine fun i => ⟨fun c m z h => ?_, fun c z h => ?_⟩
  · rw [classify_of_lsOpcode h, annLS_eq_ite]
  · exact classify_of_opcode h (classify_unnamedLsRow c z i.operands)

/-- Settles O20: the three forms of ALU row, the annotation set written out. -/
theorem aluGroupDecodes : Obligations.AluGroupDecodes := by
  refine fun i => ⟨fun w o k h => ?_, fun w k h => ?_, fun w n k h => ?_⟩
  · rw [classify_of_aluOpcode h, annAlu_eq_ite]
  · exact classify_of_endianOpcode h
  · exact classify_of_opcode h (classify_unnamedAluRow w n k i.operands)

/-- Settles O21: the four forms of Jump-class row, the annotation set written out. -/
theorem jumpGroupDecodes : Obligations.JumpGroupDecodes := by
  refine fun i => ⟨fun o k h => ?_, fun k h => ?_, fun k h => ?_, fun n k h => ?_⟩
  · rw [classify_of_jmpOpcode h, annJmp_eq_ite]
  · exact classify_of_callOpcode h
  · exact classify_of_exitOpcode h
  · exact classify_of_opcode h (classify_unnamedJmpRow n k i.operands)

/-! ## What the classification reads (R176) -/

/-- In the Jump class the immediate goes into a Call's variant and nowhere else (R172). -/
theorem classifyJmp_imm (op : Byte) (imm imm' : Imm) :
    (classifyJmp op imm).2 = (classifyJmp op imm').2 ∧
    ((classifyJmp op imm).1 = (classifyJmp op imm').1 ∨
      ((classifyJmp op imm).1 = .call imm ∧ (classifyJmp op imm').1 = .call imm')) := by
  simp only [classifyJmp]
  cases jmpEntryOf (aopField op) with
  | none => exact ⟨rfl, .inl rfl⟩
  | some e =>
    cases e with
    | op o => exact ⟨rfl, .inl rfl⟩
    | call => exact ⟨rfl, .inr ⟨rfl, rfl⟩⟩
    | exit => exact ⟨rfl, .inl rfl⟩

/-- Settles O23: the class selects the group, and only the Jump class is given a field beside the opcode. -/
theorem classificationReadsTheOpcodeAlone : Obligations.ClassificationReadsTheOpcodeAlone := by
  intro i j h
  simp only [classify, h]
  cases classOf (clsField j.opcode) with
  | ls c => exact ⟨rfl, .inl rfl⟩
  | alu w => exact ⟨rfl, .inl rfl⟩
  | jmp => exact classifyJmp_imm j.opcode i.imm j.imm

end Machine

end Sys2Proof
end

section
/-! PROOFS. The debug line of each form of row (43_render.md sections 3 and 4). -/

namespace Sys2Proof.Machine

/-! ## The line by the decoded variant -/

/-- R202, R209. -/
theorem renderLine_ls (ht : HelperTable) (x : Instruction) (c : LSClass) (m : Mode) (z : Size) (xadd : Bool) :
    renderLine ht x (.ls c m z xadd) (annLS m) = "op: " ++ tokClass c ++ tokMode m ++ tokSize z ++
      (if m = .abs ∨ m = .ind then " src: " ++ display x.src ++ " imm: " ++ dec x.imm.toInt
        else " dst: " ++ display x.dst ++ " src: " ++ display x.src ++ " off: " ++ dec x.off.toInt
          ++ " imm: " ++ dec x.imm.toInt) := by
  rw [annLS_eq_ite]
  split <;> simp [renderLine, mnem, opcodeMnemonic, annText, String.append_assoc]

/-- R203, R209. -/
theorem renderLine_alu (ht : HelperTable) (x : Instruction) (w : Width) (a : AluOp) (k : SK) :
    renderLine ht x (.alu w a k) (annAlu k) = "op: " ++ tokAlu a ++ tokSK k ++ tokWidth w ++ " dst: " ++
      display x.dst ++ (if k = .imm then " imm: " ++ dec x.imm.toInt else " src: " ++ display x.src) := by
  rw [annAlu_eq_ite]
  split <;> simp [renderLine, mnem, opcodeMnemonic, annText, String.append_assoc]

/-- R204, R209: neither the width nor the source kind shows. -/
theorem renderLine_endian (ht : HelperTable) (x : Instruction) (w : Width) (k : SK) :
    renderLine ht x (.endian w k) annEndian = "op: Endian dst: " ++ display x.dst ++ " imm: " ++ dec x.imm.toInt := by
  have hop : "op: " ++ opcodeMnemonic (.endian w k) ++ " dst: " = "op: Endian dst: " := rfl
  rw [← hop]
  simp [renderLine, mnem, annText, annEndian, String.append_assoc]

/-- R205, R209. -/
theorem renderLine_jmp (ht : HelperTable) (x : Instruction) (j : JmpOp) (k : SK) :
    renderLine ht x (.jmp j k) (annJmp k) = "op: " ++ tokJmp j ++ tokSK k ++ " dst: " ++ display x.dst ++
      (if k = .imm then " off: " ++ dec x.off.toInt ++ " imm: " ++ dec x.imm.toInt
        else " src: " ++ display x.src ++ " off: " ++ dec x.off.toInt) := by
  rw [annJmp_eq_ite]
  split <;> simp [renderLine, mnem, opcodeMnemonic, annText, String.append_assoc]

/-- R206: a Call shows no operand beside its helper. -/
theorem renderLine_call (ht : HelperTable) (x : Instruction) (h : Imm) :
    renderLine ht x (.call h) annNone = "op: Call " ++ helperText ht h := by
  have hop : "op: " ++ opcodeMnemonic (.call h) ++ " " = "op: Call " := rfl
  rw [← hop]
  simp [renderLine, mnem, annText, annNone, String.append_assoc]

theorem renderLine_call_of_some {ht : HelperTable} {h : Imm} {n : String} (hn : ht h = some n) (x : Instruction) :
    renderLine ht x (.call h) annNone = "op: Call " ++ n := by
  rw [renderLine_call, helperText, hn]

theorem renderLine_call_of_none {ht : HelperTable} {h : Imm} (hn : ht h = none) (x : Instruction) :
    renderLine ht x (.call h) annNone = "op: Call unknown function call: " ++ dec h.toInt := by
  have htext : "op: Call " ++ "unknown function call: " = "op: Call unknown function call: " := rfl
  rw [renderLine_call, helperText, hn, ← htext, String.append_assoc]

/-- R207. -/
theorem renderLine_exit (ht : HelperTable) (x : Instruction) : renderLine ht x .exit annNone = "op: Exit" := rfl

/-! ## The line by the opcode byte -/

theorem describe_of_classify {i : Instruction} {d : Decoded} {a : Ann} (h : classify i = (d, a)) (ht : HelperTable) :
    describe ht i = renderLine ht i d a := by
  rw [describe, h]

/-- Settles O28: the line of the variant that the byte decodes to. -/
theorem loadStoreLine : Obligations.LoadStoreLine := by
  intro ht i c m z h
  rw [describe_of_classify (classify_of_lsOpcode h), renderLine_ls]

/-- Settles O29: the line of the variant that the byte decodes to, for each source kind. -/
theorem aluLine : Obligations.AluLine := by
  refine fun ht i => ⟨fun w o h => ?_, fun w o h => ?_, fun w k h => ?_⟩
  · rw [describe_of_classify (classify_of_aluOpcode h), renderLine_alu, if_pos rfl, tokSK, ← String.append_assoc]
  · rw [describe_of_classify (classify_of_aluOpcode h), renderLine_alu, if_neg nofun, tokSK, ← String.append_assoc]
  · rw [describe_of_classify (classify_of_endianOpcode h), renderLine_endian]

/-- Settles O30: the line of the variant that the byte decodes to, for each source kind. -/
theorem jumpLine : Obligations.JumpLine := by
  refine fun ht i => ⟨fun o h => ?_, fun o h => ?_⟩
  · rw [describe_of_classify (classify_of_jmpOpcode h), renderLine_jmp, if_pos rfl, tokSK]
    simp only [String.append_assoc]
  · rw [describe_of_classify (classify_of_jmpOpcode h), renderLine_jmp, if_neg nofun, tokSK]
    simp only [String.append_assoc]

theorem exists_exitOpcode {op : Byte} (h : op = 0x95 ∨ op = 0x9D) : ∃ k, op = exitOpcode k := by
  obtain rfl | rfl := h
  · exact ⟨.imm, rfl⟩
  · exact ⟨.reg, rfl⟩

/-- Settles O32: the two bytes are the Exit opcode in its two source kinds. -/
theorem exitLineIgnoresItsFields : Obligations.ExitLineIgnoresItsFields := by
  intro ht i h
  obtain ⟨k, hk⟩ := exists_exitOpcode h
  have hexit : classify i = (.exit, annNone) := classify_of_exitOpcode hk
  refine ⟨hexit, ?_, ?_⟩
  · rw [hexit]
    rfl
  · rw [describe_of_classify hexit, renderLine_exit]

end Sys2Proof.Machine
end

section
/-! PROOFS. The rows with a named constant run to their end (42_decoder.md sections 2 to 4, 43_render.md section 3). -/

namespace Sys2Proof

@[simp] theorem dst_withOpcode (op : Byte) (o : Operands) : (o.withOpcode op).dst = o.dst := by
  rw [Instruction.dst, node_withOpcode]

@[simp] theorem src_withOpcode (op : Byte) (o : Operands) : (o.withOpcode op).src = o.src := by
  rw [Instruction.src, node_withOpcode]

@[simp] theorem off_withOpcode (op : Byte) (o : Operands) : (o.withOpcode op).off = o.off := by
  rw [Instruction.off, node_withOpcode]

namespace Machine

/-- What the instruction of an opcode byte leaves where its descriptor decodes to `d` with annotations `a`. -/
theorem exec_ofOpcode_eq_after {op : Byte} {o : Operands} {d : Decoded} {a : Ann}
    (h : classify (o.withOpcode op) = (d, a)) (s : State) :
    exec (ofOpcode op o) s = .next (s.after (o.withOpcode op)
      (renderLine Config.helperName (o.withOpcode op) d a) d a (fallbackOf Config.helperName d)) := by
  rw [← toInstruction_ofOpcode] at h ⊢
  exact exec_eq_after h s

/-- Settles O39: the row decodes to its class, mode and size, which give its line and annotations. -/
theorem loadStoreRowsRun : Obligations.LoadStoreRowsRun := by
  intro c m z o s
  rw [exec_ofOpcode_eq_after (classify_lsRow c m z o), renderLine_ls, annLS_eq_ite]
  simp only [lsRow, dst_withOpcode, src_withOpcode, off_withOpcode, imm_withOpcode, fallbackOf]

/-- Settles O40: the row decodes to its width, operation and source kind, which give its line and annotations. -/
theorem aluRowsRun : Obligations.AluRowsRun := by
  intro w a k o s
  rw [exec_ofOpcode_eq_after (classify_aluRow w a k o), renderLine_alu, annAlu_eq_ite]
  simp only [aluRow, dst_withOpcode, src_withOpcode, imm_withOpcode, fallbackOf]

/-- Settles O42: the row decodes to its operation and source kind, which give its line and annotations. -/
theorem jumpRowsRun : Obligations.JumpRowsRun := by
  intro j k o s
  rw [exec_ofOpcode_eq_after (classify_jmpRow j k o), renderLine_jmp, annJmp_eq_ite]
  simp only [jmpRow, dst_withOpcode, src_withOpcode, off_withOpcode, imm_withOpcode, fallbackOf]

/-- Settles O41: the four rows decode to the endian swap, whose line shows neither width nor source kind. -/
theorem endianRowsRun : Obligations.EndianRowsRun := by
  intro w k o s
  rw [exec_eq_after (i := .endian w k o) (classify_endianRow w k o), renderLine_endian]
  simp only [Instr.toInstruction, endianRow, dst_withOpcode, imm_withOpcode, fallbackOf, annEndian]

/-- Settles O43: a Call's line and outcome are told by whether the helper table names its immediate. -/
theorem callAndExitRun : Obligations.CallAndExitRun := by
  refine fun k o s => ⟨?_, ?_⟩
  · rw [exec_eq_after (i := .call k o) (classify_callRow k o)]
    cases hn : Config.helperName o.imm with
    | some n =>
      rw [renderLine_call_of_some hn, fallbackOf, hn]
      rfl
    | none =>
      rw [renderLine_call_of_none hn, fallbackOf, hn]
      rfl
  · exact exec_eq_after (i := .exit k o) (classify_exitRow k o) s

end Machine

end Sys2Proof
end

section
/-! PROOFS. The display of a register value, and a Call's line (43_render.md sections 1 and 3). -/

namespace Sys2Proof.Machine

theorem display_eq_ite (r : Reg) : display r = if r.toNat = 10 then "rfp" else "r" ++ toString r.toNat := by
  split
  next h => rw [display, if_pos h]
  next h => exact display_of_ne_ten h

/-- No decimal text follows the `r` of `rfp`: `f` is no digit. -/
theorem r_append_toString_ne_rfp (n : Nat) : "r" ++ toString n ≠ "rfp" := by
  intro h
  have hrfp : "r" ++ "fp" = "rfp" := rfl
  have hdec : dec n = "fp" := (String.append_right_inj "r").1 (h.trans hrfp.symm)
  have hdigit : 'f'.isDigit = true := isDigit_of_mem_dec_natCast (n := n) (by rw [hdec]; decide)
  exact absurd hdigit (by decide)

/-- Register values with one display are equal (D25): the display of 10 is no other value's, and decimals differ. -/
theorem display_injective {r r' : Reg} (h : display r = display r') : r = r' := by
  rw [display_eq_ite, display_eq_ite] at h
  apply BitVec.eq_of_toNat_eq
  split_ifs at h with hr hr' hr'
  · rw [hr, hr']
  · exact absurd h.symm (r_append_toString_ne_rfp _)
  · exact absurd h (r_append_toString_ne_rfp _)
  · exact Nat.repr_injective ((String.append_right_inj "r").1 h)

/-- Settles O26: only the value 10 has a display of its own, and it is not of the form of the others. -/
theorem displayShowsTheFullRegisterValue : Obligations.DisplayShowsTheFullRegisterValue :=
  ⟨display_eq_ite, fun _ _ => display_injective⟩

theorem exists_callOpcode {op : Byte} (h : op = 0x85 ∨ op = 0x8D) : ∃ k, op = callOpcode k := by
  obtain rfl | rfl := h
  · exact ⟨.imm, rfl⟩
  · exact ⟨.reg, rfl⟩

/-- R206: a Call's line, by its opcode byte. -/
theorem describe_of_callByte {i : Instruction} (h : i.opcode = 0x85 ∨ i.opcode = 0x8D) (ht : HelperTable) :
    describe ht i = renderLine ht i (.call i.imm) annNone := by
  obtain ⟨k, hk⟩ := exists_callOpcode h
  exact describe_of_classify (classify_of_callOpcode hk) ht

/-- R12: the one point of the helper table that is not open. -/
theorem helperName_one : Config.helperName 1 = some "MapLookupElement" := rfl

/-- Settles O31: the two bytes are the Call opcode in its two source kinds, and the line is told by whether the table
names the immediate. -/
theorem callLineNamesTheHelper : Obligations.CallLineNamesTheHelper := by
  refine ⟨fun ht i h => ⟨fun n hn => ?_, fun hn => ?_⟩, fun i h himm => ?_⟩
  · rw [describe_of_callByte h, renderLine_call_of_some hn]
  · rw [describe_of_callByte h, renderLine_call_of_none hn]
  · rw [describe_of_callByte h, himm, renderLine_call_of_some helperName_one]
    rfl

end Sys2Proof.Machine
end

section
/-! PROOFS. The debug line is one line (43_render.md R210). -/

namespace Sys2Proof.Machine

/-- A text without a newline. -/
abbrev SingleLine (s : String) : Prop := '\n' ∉ s.toList

theorem SingleLine.append {s t : String} (hs : SingleLine s) (ht : SingleLine t) : SingleLine (s ++ t) := by
  rw [SingleLine, String.toList_append, List.mem_append, not_or]
  exact ⟨hs, ht⟩

theorem singleLine_dec_natCast (n : Nat) : SingleLine (dec n) := fun hnewline =>
  absurd (isDigit_of_mem_dec_natCast hnewline) (by decide)

theorem singleLine_dec (n : Int) : SingleLine (dec n) := by
  cases n with
  | ofNat n => exact singleLine_dec_natCast n
  | negSucc n =>
    have hsign : SingleLine "-" := by decide
    have hneg : dec (.negSucc n) = "-" ++ dec (n + 1 : Nat) := dec_neg_natCast n.succ_pos
    rw [hneg]
    exact hsign.append (singleLine_dec_natCast _)

theorem singleLine_display (r : Reg) : SingleLine (display r) := by
  have hletter : SingleLine "r" := by decide
  rw [display]
  split
  · decide
  · exact hletter.append (singleLine_dec _)

/-- One annotation of a line, shown or not (R209). -/
theorem singleLine_annotation (shown : Bool) {label value : String} (hlabel : SingleLine label)
    (hvalue : SingleLine value) : SingleLine (if shown then label ++ value else "") := by
  cases shown with
  | true => exact hlabel.append hvalue
  | false => exact List.not_mem_nil

theorem singleLine_annText (i : Instruction) (a : Ann) : SingleLine (annText i a) := by
  have hdst := singleLine_annotation a.dst (label := " dst: ") (by decide) (singleLine_display i.dst)
  have hsrc := singleLine_annotation a.src (label := " src: ") (by decide) (singleLine_display i.src)
  have hoff := singleLine_annotation a.off (label := " off: ") (by decide) (singleLine_dec i.off.toInt)
  have himm := singleLine_annotation a.imm (label := " imm: ") (by decide) (singleLine_dec i.imm.toInt)
  exact ((hdst.append hsrc).append hoff).append himm

theorem singleLine_tokClass (c : LSClass) : SingleLine (tokClass c) := by cases c <;> decide

theorem singleLine_tokMode (m : Mode) : SingleLine (tokMode m) := by cases m <;> decide

theorem singleLine_tokSize (z : Size) : SingleLine (tokSize z) := by cases z <;> decide

theorem singleLine_tokAlu (o : AluOp) : SingleLine (tokAlu o) := by cases o <;> decide

theorem singleLine_tokJmp (o : JmpOp) : SingleLine (tokJmp o) := by cases o <;> decide

theorem singleLine_tokSK (k : SK) : SingleLine (tokSK k) := by cases k <;> decide

theorem singleLine_tokWidth (w : Width) : SingleLine (tokWidth w) := by cases w <;> decide

/-- A mnemonic is made of tokens or is a fixed text (R202 to R208). -/
theorem singleLine_opcodeMnemonic (d : Decoded) : SingleLine (opcodeMnemonic d) := by
  cases d with
  | ls c m z xadd => exact ((singleLine_tokClass c).append (singleLine_tokMode m)).append (singleLine_tokSize z)
  | alu w o k => exact ((singleLine_tokAlu o).append (singleLine_tokSK k)).append (singleLine_tokWidth w)
  | endian w k => exact (by decide : SingleLine "Endian")
  | jmp o k => exact (singleLine_tokJmp o).append (singleLine_tokSK k)
  | call h => exact (by decide : SingleLine "Call")
  | exit => exact (by decide : SingleLine "Exit")
  | unrecognized g => exact (by decide : SingleLine "unrecognized opcode")

theorem singleLine_helperText {ht : HelperTable} {h : Imm} (hname : ∀ n, ht h = some n → SingleLine n) :
    SingleLine (helperText ht h) := by
  have hunknown : SingleLine "unknown function call: " := by decide
  rw [helperText]
  split
  next n hn => exact hname n hn
  next => exact hunknown.append (singleLine_dec _)

/-- A mnemonic takes from the helper table at most the name of its own Call (R206). -/
theorem singleLine_mnem {ht : HelperTable} {d : Decoded}
    (hcall : ∀ h, d = .call h → ∀ n, ht h = some n → SingleLine n) : SingleLine (mnem ht d) := by
  cases d with
  | call h =>
    have hspace : SingleLine " " := by decide
    exact ((singleLine_opcodeMnemonic _).append hspace).append (singleLine_helperText (hcall h rfl))
  | _ => exact singleLine_opcodeMnemonic _

/-- The ID that a Call is decoded with is the descriptor's immediate (R172), and no other group decodes to a Call. -/
theorem imm_of_classify_call {i : Instruction} {h : Imm} (hcall : (classify i).1 = .call h) : h = i.imm := by
  rw [classify] at hcall
  split at hcall
  next =>
    rw [classifyLS] at hcall
    split at hcall <;> cases hcall
  next =>
    rw [classifyAlu] at hcall
    split at hcall <;> cases hcall
  next =>
    rw [classifyJmp] at hcall
    split at hcall <;> cases hcall
    rfl

/-- Settles O33: the line is made of single-line texts, the helper's name being the only one not the block's own. -/
theorem describeIsASingleLine : Obligations.DescribeIsASingleLine := by
  intro ht i hname
  have hmnem : SingleLine (mnem ht (classify i).1) := singleLine_mnem fun h hcall n hn =>
    hname n (imm_of_classify_call hcall ▸ hn)
  have hop : SingleLine "op: " := by decide
  exact (hop.append hmnem).append (singleLine_annText i _)

end Sys2Proof.Machine
end

section
/-! PROOFS. The listing's text by position and depth (43_render.md R212). -/

namespace Sys2Proof.Machine

/-- The line of one continuation of the instruction at position `p`, paired with its depth (R212). -/
def continuationLine (ht : HelperTable) (p : Nat) (ck : Instruction × Nat) : String :=
  String.ofList (List.replicate ck.2 '\t') ++ dec p ++ "." ++ dec ck.2 ++ ": " ++ describe ht ck.1 ++ "\n"

/-- The continuations' lines are joined in chain order, their depths counted up from the first one's. -/
theorem continuationLines_eq_join (ht : HelperTable) (p k : Nat) (cs : List Instruction) :
    continuationLines ht p k cs = String.join ((cs.zipIdx k).map (continuationLine ht p)) := by
  induction cs generalizing k with
  | nil => rfl
  | cons c cs ih =>
    rw [List.zipIdx_cons, List.map_cons, String.join_cons, ← ih]
    rfl

/-- Settles O34: the lines of the appended instruction stand behind the listing, its continuations from depth 1 on. -/
theorem listingRendersEveryInstruction : Obligations.ListingRendersEveryInstruction := by
  refine fun ht => ⟨rfl, fun P i => ?_⟩
  rw [append, programListing_append, instructionLines, entryLines, continuationLines_eq_join]
  rfl

end Sys2Proof.Machine
end

section
/-! PROOFS. Every row against the decoder's algorithm (42_decoder.md sections 1 to 5). -/

namespace Sys2Proof.Machine

/-- Settles O46: every row presents its descriptor with the decoder's own answer, and the line of that answer is what
`describe` gives. -/
theorem everyRowAgreesWithTheDecoder : Obligations.EveryRowAgreesWithTheDecoder :=
  fun _ s => exec_eq_after rfl s

end Sys2Proof.Machine
end

section
/-! PROOFS. The four fallback outcomes and their causes, and that nothing stops (60_exceptions.md sections 1 and 2). -/

namespace Sys2Proof.Machine

/-! ## Where a field has no entry (R162, R166, R169, R174) -/

/-- The group that a class value selects (R162). -/
def groupOf : OpClass → Group
  | .ls _ => .ls
  | .alu _ => .alu
  | .jmp => .jmp

theorem groupOf_classOf_eq_ls_iff (b : BitVec 3) : groupOf (classOf b) = .ls ↔ b.toNat ∈ [0, 1, 2, 3, 6] := by
  revert b; decide

theorem groupOf_classOf_eq_alu_iff (b : BitVec 3) : groupOf (classOf b) = .alu ↔ b.toNat ∈ [4, 7] := by
  revert b; decide

theorem groupOf_classOf_eq_jmp_iff (b : BitVec 3) : groupOf (classOf b) = .jmp ↔ b = 5 := by
  revert b; decide

theorem modeOf_eq_none_iff (b : BitVec 3) : modeOf b = none ↔ b = 7 := by
  revert b; decide

theorem aluEntryOf_eq_none_iff (b : BitVec 4) : aluEntryOf b = none ↔ 14 ≤ b.toNat := by
  revert b; decide

theorem jmpEntryOf_eq_none_iff (b : BitVec 4) : jmpEntryOf b = none ↔ 10 ≤ b.toNat := by
  revert b; decide

theorem jmpEntryOf_eq_call_iff (b : BitVec 4) : jmpEntryOf b = some .call ↔ b = 8 := by
  revert b; decide

/-! ## What each group falls back to (R301) -/

theorem fallbackOf_classifyLS_eq_some_iff (ht : HelperTable) (c : LSClass) (op : Byte) (f : FallbackCode) :
    fallbackOf ht (classifyLS c op).1 = some f ↔ modeOf (modeField op) = none ∧ f = .fbLsMode := by
  rw [classifyLS]
  cases modeOf (modeField op) with
  | none => simp [fallbackOf, eq_comm]
  | some m => simp [fallbackOf]

theorem fallbackOf_classifyAlu_eq_some_iff (ht : HelperTable) (w : Width) (op : Byte) (f : FallbackCode) :
    fallbackOf ht (classifyAlu w op).1 = some f ↔ aluEntryOf (aopField op) = none ∧ f = .fbAluOp := by
  rw [classifyAlu]
  cases aluEntryOf (aopField op) with
  | none => simp [fallbackOf, eq_comm]
  | some e => cases e <;> simp [fallbackOf]

theorem fallbackOf_classifyJmp_eq_some_iff (ht : HelperTable) (op : Byte) (imm : Imm) (f : FallbackCode) :
    fallbackOf ht (classifyJmp op imm).1 = some f ↔
      (jmpEntryOf (aopField op) = none ∧ f = .fbJmpOp) ∨
      (jmpEntryOf (aopField op) = some .call ∧ ht imm = none ∧ f = .fbHelper) := by
  rw [classifyJmp]
  cases jmpEntryOf (aopField op) with
  | none => simp [fallbackOf, eq_comm]
  | some e => cases e <;> simp [fallbackOf, eq_comm]

/-- The fallback outcome of a descriptor by the group that its class selects (R301, R302). -/
theorem fallbackOf_classify_eq_some_iff (ht : HelperTable) (i : Instruction) (f : FallbackCode) :
    fallbackOf ht (classify i).1 = some f ↔
      (groupOf (classOf (clsField i.opcode)) = .ls ∧ modeOf (modeField i.opcode) = none ∧ f = .fbLsMode) ∨
      (groupOf (classOf (clsField i.opcode)) = .alu ∧ aluEntryOf (aopField i.opcode) = none ∧ f = .fbAluOp) ∨
      (groupOf (classOf (clsField i.opcode)) = .jmp ∧
        ((jmpEntryOf (aopField i.opcode) = none ∧ f = .fbJmpOp) ∨
          (jmpEntryOf (aopField i.opcode) = some .call ∧ ht i.imm = none ∧ f = .fbHelper))) := by
  rw [classify]
  cases classOf (clsField i.opcode) with
  | ls c => simp [groupOf, fallbackOf_classifyLS_eq_some_iff]
  | alu w => simp [groupOf, fallbackOf_classifyAlu_eq_some_iff]
  | jmp => simp [groupOf, fallbackOf_classifyJmp_eq_some_iff]

/-! ## The variant and the line of a fallback (R172, R175, R206, R208) -/

/-- The variants that have a fallback outcome. -/
theorem decoded_of_fallbackOf {ht : HelperTable} {d : Decoded} {f : FallbackCode} (h : fallbackOf ht d = some f) :
    (f = .fbLsMode ∧ d = .unrecognized .ls) ∨ (f = .fbAluOp ∧ d = .unrecognized .alu) ∨
    (f = .fbJmpOp ∧ d = .unrecognized .jmp) ∨ (f = .fbHelper ∧ ∃ helper, d = .call helper ∧ ht helper = none) := by
  cases d with
  | unrecognized g => cases g <;> cases h <;> simp
  | call helper =>
    simp only [fallbackOf, Option.ite_none_right_eq_some, Option.some.injEq] at h
    obtain ⟨hnone, rfl⟩ := h
    simp [hnone]
  | _ => cases h

/-- A descriptor with a fallback outcome shows no annotation (R172, R175). -/
theorem ann_of_fallbackOf {ht : HelperTable} {i : Instruction} {f : FallbackCode}
    (h : fallbackOf ht (classify i).1 = some f) : (classify i).2 = annNone := by
  revert h
  rw [classify]
  cases classOf (clsField i.opcode) with
  | ls c =>
    intro h
    obtain ⟨hmode, -⟩ := (fallbackOf_classifyLS_eq_some_iff ht c _ f).1 h
    simp only [classifyLS, hmode]
  | alu w =>
    intro h
    obtain ⟨hop, -⟩ := (fallbackOf_classifyAlu_eq_some_iff ht w _ f).1 h
    simp only [classifyAlu, hop]
  | jmp =>
    intro h
    obtain ⟨hop, -⟩ | ⟨hop, -⟩ := (fallbackOf_classifyJmp_eq_some_iff ht _ _ f).1 h
    · simp only [classifyJmp, hop]
    · simp only [classifyJmp, hop]

theorem describe_of_unrecognized {i : Instruction} {g : Group} (h : classify i = (.unrecognized g, annNone))
    (ht : HelperTable) : describe ht i = "op: unrecognized opcode" := by
  rw [describe_of_classify h, renderLine_unrecognized]

/-- Settles O24: the class selects the group, and each group has one field whose missing entry is its fallback; the
variant and the empty annotation set give the line. -/
theorem fallbackOutcomesHaveTheirCauses : Obligations.FallbackOutcomesHaveTheirCauses := by
  refine fun ht i => ⟨?_, ?_, ?_, ?_, fun f h => ?_⟩
  · simp [fallbackOf_classify_eq_some_iff, groupOf_classOf_eq_ls_iff, modeOf_eq_none_iff]
  · simp [fallbackOf_classify_eq_some_iff, groupOf_classOf_eq_alu_iff, aluEntryOf_eq_none_iff]
  · simp [fallbackOf_classify_eq_some_iff, groupOf_classOf_eq_jmp_iff, jmpEntryOf_eq_none_iff]
  · simp [fallbackOf_classify_eq_some_iff, groupOf_classOf_eq_jmp_iff, jmpEntryOf_eq_call_iff]
  · have hann := ann_of_fallbackOf h
    obtain ⟨rfl, hd⟩ | ⟨rfl, hd⟩ | ⟨rfl, hd⟩ | ⟨rfl, helper, hd, hnone⟩ := decoded_of_fallbackOf h
    · exact ⟨hd, describe_of_unrecognized (Prod.ext hd hann) ht⟩
    · exact ⟨hd, describe_of_unrecognized (Prod.ext hd hann) ht⟩
    · exact ⟨hd, describe_of_unrecognized (Prod.ext hd hann) ht⟩
    · obtain rfl := imm_of_classify_call hd
      have hcall : classify i = (.call i.imm, annNone) := Prod.ext hd hann
      exact ⟨hd, (describe_of_classify hcall ht).trans (renderLine_call_of_none hnone i)⟩

/-- Settles O47: an instruction presents its descriptor, and a step does so or leaves the state as it is. -/
theorem nothingStops : Obligations.NothingStops := by
  refine ⟨fun i s => ⟨_, exec_eq_presentDecoded i s⟩, fun s => ?_⟩
  cases hin : s.input with
  | nil => exact ⟨s, step_of_no_input hin⟩
  | cons c rest => exact ⟨_, step_eq_presentDecoded hin⟩

end Sys2Proof.Machine
end
